-- ==== Sys2Proof/Word.lean ====
section
/-! DEFINITION. The word types of the part and their plainest arithmetic. -/

namespace Sys2Proof

/-- One byte of the upstream bus or of a segment. -/
abbrev Byte := BitVec 8

/-- A 7-bit bus address, written as its value (00_scope, Conventions). -/
abbrev Addr7 := BitVec 7

/-- The digits of a virtual address: 10 bits hold both forms (R3). -/
abbrev Addr10 := BitVec 10

/-- One of the 64 slots of the route table (R1). -/
abbrev SlotId := Fin 64

/-- One of the 24 frames of the pool (R98). -/
abbrev FrameId := Fin 24

end Sys2Proof
end

