-- ==== Sys2Proof/Syntax.lean ====
section
/-! DEFINITION. The commands of the part: one constructor for each row of spec/opcode_table.json. -/

namespace Sys2Proof

/-- The four downstream segments (00_scope). -/
inductive Seg where
  | a | b | c | d
  deriving DecidableEq, Repr

/-- A bus condition of the upstream bus, as MISPLACED_CONDITION carries it (R75). -/
inductive Condition where
  | start | stop
  deriving DecidableEq, Repr

/-- The commands the part takes from outside (log entries 1 and 3).

A row of the upstream bus carries the byte, address or acknowledge bit that the master puts on it; a row of a
segment carries its segment and what the part reads there. A management row is one whole management write: it
carries the tag, the check byte when the frame has one, and the argument bytes (R174). -/
inductive Instr where
  -- the upstream bus
  | start
  | repeatedStart
  | stop
  | misplacedCondition (condition : Condition)
  | addressByte (address : Addr7) (read : Bool)
  | tenBitFirstByte (upper : BitVec 2)
  | tenBitSecondByte (lower : Byte)
  | tenBitReadForm (upper : BitVec 2)
  | mgmtWriteByte (byte : Byte)
  | mgmtReadByte (masterAck : Bool)
  | postedFillByte (byte : Byte)
  | cutThroughDataByte (byte : Byte)
  | readDataAck (masterAck : Bool)
  | holdLimitExpiry
  | upstreamLowTimeout
  -- the edit session's timer
  | editExpiry
  -- the management commands
  | deviceIdent (tag : Byte) (check : Option Byte)
  | deviceConfigRead (tag : Byte) (check : Option Byte)
  | deviceConfigWrite (tag : Byte) (check : Option Byte) (hold idle required m3 m2 m1 m0 : Byte)
  | softResetRoutes (tag : Byte) (check : Option Byte)
  | softResetAll (tag : Byte) (check : Option Byte)
  | editOpen (tag : Byte) (check : Option Byte)
  | editStage (tag : Byte) (check : Option Byte) (token slot action : Byte) (entry : List Byte)
  | editUnstage (tag : Byte) (check : Option Byte) (token slot : Byte)
  | editList (tag : Byte) (check : Option Byte) (token : Byte)
  | editCommit (tag : Byte) (check : Option Byte) (token : Byte)
  | editAbandon (tag : Byte) (check : Option Byte) (token : Byte)
  | routeHold (tag : Byte) (check : Option Byte) (slot : Byte)
  | routeResume (tag : Byte) (check : Option Byte) (slot : Byte)
  | routeRelease (tag : Byte) (check : Option Byte) (slot : Byte)
  | routeRead (tag : Byte) (check : Option Byte) (slot : Byte)
  | routeFindVirtual (tag : Byte) (check : Option Byte) (formAndUpper lower : Byte)
  | routeFindTarget (tag : Byte) (check : Option Byte) (segment target : Byte)
  | segmentConfig (tag : Byte) (check : Option Byte) (segment enable speed lowLimit retry alert : Byte)
  | segmentClear (tag : Byte) (check : Option Byte) (segment : Byte)
  | segmentStatus (tag : Byte) (check : Option Byte) (segment : Byte)
  | segmentDiscover (tag : Byte) (check : Option Byte) (segment : Byte)
  | discoverCancel (tag : Byte) (check : Option Byte) (segment : Byte)
  | presenceRead (tag : Byte) (check : Option Byte) (segment : Byte)
  | attentionSummary (tag : Byte) (check : Option Byte)
  | attentionRead (tag : Byte) (check : Option Byte) (kind number : Byte)
  | attentionAck (tag : Byte) (check : Option Byte) (kind number stamp high low : Byte)
  -- answers and bytes of the part's transactions on a segment
  | targetAddressAnswer (seg : Seg) (ack : Bool)
  | cutThroughByteAnswer (seg : Seg) (ack : Bool)
  | readByteClocked (seg : Seg) (byte : Byte)
  | frameOutByteAnswer (seg : Seg) (ack : Bool)
  | deliveryAddressAnswer (seg : Seg) (ack : Bool)
  | deliveryByteAnswer (seg : Seg) (ack : Bool)
  | probeAnswer (seg : Seg) (ack : Bool)
  | identifyAddressAnswer (seg : Seg) (ack : Bool)
  | identifyDataByte (seg : Seg) (byte : Byte)
  -- events of a segment's lines
  | segmentStopComplete (seg : Seg)
  | arbitrationLoss (seg : Seg)
  | segmentLowTimeout (seg : Seg)
  | recoveryPulse (seg : Seg) (sdaHigh stopRose : Bool)
  | recoveryLowLimit (seg : Seg)
  | busFreeTime (seg : Seg)
  | externalStart (seg : Seg)
  | externalStop (seg : Seg)
  | segmentAlertFall (seg : Seg)
  | segmentAlertRise (seg : Seg)
  -- device reset
  | deviceReset
  | deviceResetEnd (adr1 adr0 : Bool)
  deriving DecidableEq, Repr

end Sys2Proof
end

