-- ==== Sys2Proof/WellFormed.lean ====
section
/-! DEFINITION. The check a command must pass before it is a command of the part. -/

namespace Sys2Proof

/-- How many bytes follow the action code of EDIT_STAGE: a 7-byte record for CREATE and MODIFY, the drain choice
for RETIRE, and either number for an action code that is none of the three (R176, R191, R195). -/
def stageEntryLength (action : Byte) (n : Nat) : Bool :=
  if action = 1 ∨ action = 2 then n == 7
  else if action = 3 then n == 1
  else n == 7 || n == 1

/-- A command is well formed when its operands have the lengths the manual gives. Every other operand is of a
fixed width. A frame of another length is a matter of the byte-level write, where R176 answers BAD_LENGTH. -/
def Instr.wellFormed : Instr → Bool
  | .editStage _ _ _ _ action entry => stageEntryLength action entry.length
  | _ => true

end Sys2Proof
end

