-- ==== Sys2Proof/Decode.lean ====
section
/-! DEFINITION. What a word spells by the bits of spec/opcode_table.json (nothing: no row of the table gives
bits), and the management frame that a management row spells. -/

namespace Sys2Proof

/-- The command that a word spells by the table's bits. No row of this part's table gives bits (a row is an event,
not an encoding), so no word spells a command. -/
def decodeTableWord (_nbits _w : Nat) : Option Instr := none

/-- The frame of a management write, in the order sent: command byte with the check flag, tag, arguments and the
check byte when there is one (R174, R194). -/
def frameBytes (code : Byte) (tag : Byte) (check : Option Byte) (args : List Byte) : List Byte :=
  match check with
  | none => code :: tag :: args
  | some crc => (code ||| 0x80) :: tag :: (args ++ [crc])

/-- The frame of the management write that a management row stands for; no other row is one (R191, R193, R195). -/
def Instr.frame? : Instr → Option (List Byte)
  | .deviceIdent tag check => some (frameBytes 0x01 tag check [])
  | .deviceConfigRead tag check => some (frameBytes 0x02 tag check [])
  | .deviceConfigWrite tag check h i r m3 m2 m1 m0 => some (frameBytes 0x03 tag check [h, i, r, m3, m2, m1, m0])
  | .softResetRoutes tag check => some (frameBytes 0x0F tag check [0x00])
  | .softResetAll tag check => some (frameBytes 0x0F tag check [0x01])
  | .editOpen tag check => some (frameBytes 0x10 tag check [])
  | .editStage tag check token slot action entry =>
      some (frameBytes 0x11 tag check (token :: slot :: action :: entry))
  | .editUnstage tag check token slot => some (frameBytes 0x12 tag check [token, slot])
  | .editList tag check token => some (frameBytes 0x13 tag check [token])
  | .editCommit tag check token => some (frameBytes 0x14 tag check [token])
  | .editAbandon tag check token => some (frameBytes 0x15 tag check [token])
  | .routeHold tag check slot => some (frameBytes 0x18 tag check [slot])
  | .routeResume tag check slot => some (frameBytes 0x19 tag check [slot])
  | .routeRelease tag check slot => some (frameBytes 0x1A tag check [slot])
  | .routeRead tag check slot => some (frameBytes 0x20 tag check [slot])
  | .routeFindVirtual tag check high low => some (frameBytes 0x21 tag check [high, low])
  | .routeFindTarget tag check seg target => some (frameBytes 0x22 tag check [seg, target])
  | .segmentConfig tag check seg en sp low retry alert =>
      some (frameBytes 0x30 tag check [seg, en, sp, low, retry, alert])
  | .segmentClear tag check seg => some (frameBytes 0x31 tag check [seg])
  | .segmentStatus tag check seg => some (frameBytes 0x32 tag check [seg])
  | .segmentDiscover tag check seg => some (frameBytes 0x33 tag check [seg])
  | .discoverCancel tag check seg => some (frameBytes 0x34 tag check [seg])
  | .presenceRead tag check seg => some (frameBytes 0x35 tag check [seg])
  | .attentionSummary tag check => some (frameBytes 0x40 tag check [])
  | .attentionRead tag check kind number => some (frameBytes 0x41 tag check [kind, number])
  | .attentionAck tag check kind number stamp high low =>
      some (frameBytes 0x42 tag check [kind, number, stamp, high, low])
  | .start | .repeatedStart | .stop | .misplacedCondition _ | .addressByte _ _ | .tenBitFirstByte _
  | .tenBitSecondByte _ | .tenBitReadForm _ | .mgmtWriteByte _ | .mgmtReadByte _ | .postedFillByte _
  | .cutThroughDataByte _ | .readDataAck _ | .holdLimitExpiry | .upstreamLowTimeout | .editExpiry
  | .targetAddressAnswer _ _ | .cutThroughByteAnswer _ _ | .readByteClocked _ _ | .frameOutByteAnswer _ _
  | .deliveryAddressAnswer _ _ | .deliveryByteAnswer _ _ | .probeAnswer _ _ | .identifyAddressAnswer _ _
  | .identifyDataByte _ _ | .segmentStopComplete _ | .arbitrationLoss _ | .segmentLowTimeout _
  | .recoveryPulse _ _ _ | .recoveryLowLimit _ | .busFreeTime _ | .externalStart _ | .externalStop _
  | .segmentAlertFall _ | .segmentAlertRise _ | .deviceReset | .deviceResetEnd _ _ => none

end Sys2Proof
end

