-- ==== Sys2Proof/Config.lean ====
section
/-! DEFINITION. What an implementation of the part fixes: the limits of the manual's tables and the one
value the manual leaves to the part. -/

namespace Sys2Proof.Config

/-- The upstream low timeout, in ms (R73). -/
def upstreamLow : Nat := 45

/-- The bus-free time of a segment, in µs (R128). -/
def busFree : Nat := 50

/-- The revision letter of the part, as its character code (R186). The manual gives no letter, so it is a
value without a body: nothing can be proved about which letter it is (log entry 7). -/
opaque revision : Byte

/-- The part code of DEVICE_IDENT, most significant byte first (R186). -/
def partCode : List Byte := [0x46, 0x16]

/-- Bytes the command assembly buffer holds (R54, R59). -/
def assemblySize : Nat := 24

/-- Places in one segment's posted queue, its reservation included (R100). -/
def queueSize : Nat := 8

/-- Entries of the staging list (R36). -/
def stagingSize : Nat := 16

/-- The hold limit after reset, in ms (R183). -/
def defaultHold : Nat := 25

/-- The edit idle limit after reset, in steps of 100 ms (R183). -/
def defaultIdle : Nat := 20

/-- Milliseconds in one step of the edit idle limit (R183). -/
def idleStep : Nat := 100

/-- Grants to other claims after which a waiting probe comes first (R130). -/
def fairnessLimit : Nat := 4

/-- Identifications allowed for one falling edge of an alert line (R155). -/
def identifyLimit : Nat := 4

/-- Recovery pulses in one attempt (R137). -/
def pulsesPerAttempt : Nat := 9

/-- Attempts in one recovery (R137). -/
def recoveryAttempts : Nat := 3

/-- The lowest device address of a segment: targets, presence entries and probes start here (R146). -/
def firstTarget : Addr7 := 0x08

/-- The highest device address of a segment (R146). -/
def lastTarget : Addr7 := 0x77

end Sys2Proof.Config
end

