-- ==== Sys2Proof/Machine/State.lean ====
section
/-! DEFINITION. The state of the part: everything the manual gives it, as plain data, and its value right after
device reset. What the manual defines as computed from other state (the in-flight marker, the queued frames, the
identify and probe claims, the reservation counts, the free pool, ALERT_N) is a function in Ops, not a field. -/

namespace Sys2Proof.Machine

/-- Why a command stops the model. The part has no such case: every row of the table has an effect the manual
gives, so no meaning raises a fault and the type has no constructor. -/
inductive Fault where
  deriving DecidableEq, Repr

/-- Why a command is refused by the model. -/
inductive Refusal where
  /-- Raised by exec alone, for a row whose meaning is not written yet; no row of this model is one. Safe: the run
  stops and nothing is claimed about the row. -/
  | notModelled (mnemonic : String)
  deriving DecidableEq, Repr

/-! ### One value for each segment -/

/-- One value for each of the four segments. -/
structure PerSegment (α : Type) where
  a : α
  b : α
  c : α
  d : α
  deriving DecidableEq, Repr

/-- The value of one segment. -/
def PerSegment.get {α : Type} (p : PerSegment α) : Seg → α
  | .a => p.a
  | .b => p.b
  | .c => p.c
  | .d => p.d

/-- The values with one segment's replaced. -/
def PerSegment.set {α : Type} (p : PerSegment α) (g : Seg) (x : α) : PerSegment α :=
  match g with
  | .a => { p with a := x }
  | .b => { p with b := x }
  | .c => { p with c := x }
  | .d => { p with d := x }

/-- The same value for every segment. -/
def PerSegment.all {α : Type} (x : α) : PerSegment α := ⟨x, x, x, x⟩

/-! ### The route table (R1, R2) -/

/-- The namespace of a virtual address (R3). -/
inductive Form where
  | seven | ten
  deriving DecidableEq, Repr

/-- A key: form and virtual address (R3). -/
structure Key where
  form : Form
  addr : Addr10
  deriving DecidableEq, Repr

/-- The directions a route accepts (R2). -/
inductive Access where
  | readWrite | readOnly | writeOnly
  deriving DecidableEq, Repr

/-- Whether a write is relayed byte by byte or taken into a frame (R2). -/
inductive WriteMode where
  | cutThrough | posted
  deriving DecidableEq, Repr

/-- The check-byte handling of posted frames (R2); `off` is the manual's NONE. -/
inductive CheckMode where
  | off | verify | verifyRegen
  deriving DecidableEq, Repr

/-- A route record (R2). -/
structure RouteRecord where
  key : Key
  seg : Seg
  target : Addr7
  access : Access
  mode : WriteMode
  check : CheckMode
  maxLen : Nat
  faultLimit : Nat
  autoRevive : Bool
  deriving DecidableEq, Repr

/-- What a retire does with queued frames (R14). -/
inductive Drain where
  | drain | discard
  deriving DecidableEq, Repr

/-- A pending record: a replacement record or a retire marker (R1, R10). -/
inductive Pending where
  | modify (record : RouteRecord)
  | retire (choice : Drain)
  deriving DecidableEq, Repr

/-- The state of a slot (R7). -/
inductive SlotState where
  | free | live | held | quarantined | draining
  deriving DecidableEq, Repr

/-- The in-flight marker (R8). It is computed, not stored. -/
inductive Marker where
  | none | routed | delivery
  deriving DecidableEq, Repr

/-- One slot of the route table (R1). -/
structure Slot where
  state : SlotState
  cur : Option RouteRecord
  pend : Option Pending
  faults : Nat
  completed : BitVec 16
  deriving DecidableEq, Repr

/-- A FREE slot (R1, R26). -/
def Slot.free : Slot := { state := .free, cur := none, pend := none, faults := 0, completed := 0 }

/-! ### The edit session (R30, R36) -/

/-- What a staged entry does to its slot (R36). -/
inductive Action where
  | create (record : RouteRecord) (startHeld : Bool)
  | modify (record : RouteRecord) (startHeld : Bool)
  | retire (choice : Drain)
  deriving DecidableEq, Repr

/-- One entry of the staging list (R36). -/
structure Entry where
  slot : SlotId
  action : Action
  deriving DecidableEq, Repr

/-- The open edit session (R30). The idle timer is `elapsed`, in ms; `limit` is the session idle limit in steps of
100 ms (log entry 2). -/
structure Session where
  token : Byte
  limit : Nat
  elapsed : Nat
  deriving DecidableEq, Repr

/-! ### The frame pool (R98) -/

/-- One frame (R98). -/
structure Frame where
  bytes : List Byte
  owner : Option SlotId
  overlong : Bool
  verified : Bool
  orphan : Bool
  deriving DecidableEq, Repr

/-- A frame of the free pool (R98). -/
def Frame.empty : Frame := { bytes := [], owner := none, overlong := false, verified := false, orphan := false }

/-- The fill position when it is occupied: the frame, and the segment its reservation is on (R98, R100). -/
structure Fill where
  frame : FrameId
  seg : Seg
  deriving DecidableEq, Repr

/-! ### Outcomes and the routed transaction (R19, R77) -/

/-- The outcome kinds (R19). HOLD_EXPIRED says whether the target had ACKed its address before the expiry (R71). -/
inductive OutcomeKind where
  | complete | targetNack | timeout | holdExpired (acked : Bool) | writeRefused | arbLost | aborted
  deriving DecidableEq, Repr

/-- An outcome taken by a routed transaction, provisional or final (R94). -/
structure Taken where
  kind : OutcomeKind
  final : Bool
  deriving DecidableEq, Repr

/-- Where a routed transaction stands (R77). -/
inductive Stage where
  | waiting | address | write | read | frameOut | paused | tail
  deriving DecidableEq, Repr

/-- The transaction record (R77). `phaseRefused` is the refused mark set in this write phase, which R84 and R85
tell apart from the mark of the whole transaction. -/
structure Txn where
  slot : SlotId
  seg : Seg
  stage : Stage
  answered : Bool
  refused : Bool
  phaseRefused : Bool
  count : Nat
  frame : Option FrameId
  taken : Option Taken
  deriving DecidableEq, Repr

/-! ### The upstream port (R54) -/

/-- The port states (R55). -/
inductive PortState where
  | idle | address | tenFirst | notAddressed | mgmtWrite | mgmtRead | routedCt | routedRead | postedFill
  deriving DecidableEq, Repr

/-- The kinds of routed phase a repeated START can leave open (R69). -/
inductive HeldKind where
  | ct | read | fill
  deriving DecidableEq, Repr

/-- The held phase (R54, R69). -/
structure Held where
  slot : SlotId
  kind : HeldKind
  deriving DecidableEq, Repr

/-- The 10-bit memory (R54, R65). -/
structure TenMemory where
  slot : SlotId
  upper : BitVec 2
  deriving DecidableEq, Repr

/-- A running timer of the port, in ms, with the limit it took when it started (R70). -/
structure Timer where
  elapsed : Nat
  limit : Nat
  deriving DecidableEq, Repr

/-- A withheld address acknowledge (R62): the slot and direction, the upper bits when it is a 10-bit second byte
(R65), whether its claim is deferred (R63) and whether it is a compound read of a POSTED route (R90). -/
structure Wait where
  slot : SlotId
  read : Bool
  ten : Option (BitVec 2)
  deferred : Bool
  compound : Bool
  deriving DecidableEq, Repr

/-- What the part last put on upstream SDA as an answer (R53; log entry 22). -/
inductive UpOut where
  | released | ack | nack | byte (b : Byte)
  deriving DecidableEq, Repr

/-- The upstream port (R54). `asm` and `overlong` are the command assembly buffer with its marks; `send` is what a
management read has left to send (R60). `firstByte` marks a routed read whose first byte the upstream master has not
clocked yet (R88; log entry 28). `low` is the upstream-low timer, in ms, absent while it is stopped (R73; log entry
4). -/
structure Port where
  state : PortState
  hand : Option SlotId
  held : Option Held
  ten : Option TenMemory
  upper : BitVec 2
  repeated : Bool
  asm : List Byte
  overlong : Bool
  send : List Byte
  wait : Option Wait
  stretch : Option Timer
  firstByte : Bool
  low : Option Nat
  out : UpOut
  deriving DecidableEq, Repr

/-- The port after reset, and at every entry to IDLE (R56, R68, R74). -/
def Port.idle : Port :=
  { state := .idle, hand := none, held := none, ten := none, upper := 0, repeated := false, asm := [],
    overlong := false, send := [], wait := none, stretch := none, firstByte := false, low := none,
    out := .released }

/-! ### The segments (R120) -/

/-- The segment states (R120). -/
inductive SegState where
  | disabled | idle | external | owned | recovering | faulted
  deriving DecidableEq, Repr

/-- The speed settings of a segment (R122). -/
inductive Speed where
  | khz100 | khz400
  deriving DecidableEq, Repr

/-- A segment configuration (R122). -/
structure SegConfig where
  enable : Bool
  speed : Speed
  lowLimit : Nat
  retry : Nat
  alertAddr : Addr7
  deriving DecidableEq, Repr

/-- The default configuration (R122). -/
def SegConfig.default : SegConfig :=
  { enable := false, speed := .khz100, lowLimit := 30, retry := 1, alertAddr := 0 }

/-- The routed claim of a segment's arbiter (R120, R134). -/
structure Claim where
  slot : SlotId
  read : Bool
  loss : Nat
  deriving DecidableEq, Repr

/-- Where a transaction of the part stands on the lines (the rows of R132). -/
inductive LinePos where
  /-- an address byte is going out and its answer is awaited -/
  | addr
  /-- a write byte is going out and its answer is awaited -/
  | byte
  /-- a read byte is being clocked from the target -/
  | readByte
  /-- SCL is held before the acknowledge bit of a read byte -/
  | readAck
  /-- SCL is held at a byte boundary -/
  | boundary
  /-- the STOP is being sent -/
  | stop
  deriving DecidableEq, Repr

/-- What the segment does at the next byte boundary (R69, R132). -/
inductive After where
  | goOn | stop | restart (read : Bool)
  deriving DecidableEq, Repr

/-- What a transaction of the part is for: its sub-kind (R120) with what that kind keeps.
A routed one says whether the bytes of a compound frame are going out (R91). A delivery has its frame, the outcome
it has taken and whether every byte was ACKed (R112). A probe says whether its sweep still stands (R153). An
identify read has what it received (R157). -/
inductive Work where
  | routed (frameOut : Bool)
  | delivery (frame : FrameId) (outcome : Option OutcomeKind) (allAcked : Bool)
  | probe (sweeping : Bool)
  | identify (answer : Option Bool) (data : Option Byte)
  deriving DecidableEq, Repr

/-- The transaction of the part in progress on a segment (R131, R132). `target` and `read` make its address byte,
`first` says that the address byte follows a START and not a repeated START (R81), `out` is the byte being sent
and `left` the bytes after it. `detached` marks one that a soft reset took from its slot (R26), `clear` one that a
recovery follows (R141). -/
structure Down where
  work : Work
  pos : LinePos
  target : Addr7
  read : Bool
  first : Bool
  out : Byte
  left : List Byte
  after : After
  detached : Bool
  clear : Bool
  deriving DecidableEq, Repr

/-- An entry of the presence map (R146). -/
inductive Presence where
  | unknown | present | absent
  deriving DecidableEq, Repr

/-- One segment controller (R120, R108, R146, R149, R154). `busFree` is the bus-free timer in µs and `low` the low-limit
timer in ms, each absent while it is stopped (R128, R135; log entry 4). -/
structure Segment where
  state : SegState
  down : Option Down
  cfg : SegConfig
  next : Option SegConfig
  claim : Option Claim
  fair : Nat
  attempt : Nat
  pulses : Nat
  busFree : Option Nat
  low : Option Nat
  queue : List FrameId
  headLoss : Nat
  presence : Vector Presence 112
  cursor : Option Addr7
  alertLow : Bool
  idCount : Nat
  deriving DecidableEq, Repr

/-- The presence map with every entry UNKNOWN (R146). -/
def Presence.cleared : Vector Presence 112 := Vector.replicate 112 .unknown

/-- A segment after device reset and SOFT_RESET ALL (R121, R146, R149, R154); the alert level is a pin and is not
stored by a reset. -/
def Segment.reset (alertLow : Bool) : Segment :=
  { state := .disabled, down := none, cfg := .default, next := none, claim := none, fair := 0, attempt := 0,
    pulses := 0, busFree := none, low := none, queue := [], headLoss := 0, presence := Presence.cleared,
    cursor := none, alertLow := alertLow, idCount := 0 }

/-! ### Attention (R161) -/

/-- The flag set and change stamp of one owner (R161). -/
structure Owner where
  flags : BitVec 16
  stamp : Byte
  deriving DecidableEq, Repr

/-- An owner with no flag set and stamp 00h (R170). -/
def Owner.clear : Owner := { flags := 0, stamp := 0 }

/-- The attention unit: the 69 owners and the unrouted-alert addresses (R161, R164). -/
structure Attention where
  device : Owner
  slots : Vector Owner 64
  segs : PerSegment Owner
  unrouted : PerSegment (Option Addr7)
  deriving DecidableEq, Repr

/-- The attention unit with everything clear (R170, steps 1 to 3). -/
def Attention.clear : Attention :=
  { device := .clear, slots := Vector.replicate 64 Owner.clear, segs := .all .clear, unrouted := .all none }

/-! ### The management unit (R179, R183) -/

/-- The status codes (R181). -/
inductive Status where
  | ok | accepted | resetDone | badCommand | badLength | badCheck | badArgument | noSession | wrongToken
  | sessionBusy | stagingFull | validationFailed | notFound | wrongState | busy | stale
  deriving DecidableEq, Repr

/-- The response buffer (R179); its length byte and check byte are computed from the rest. -/
structure Response where
  status : Status
  tag : Byte
  data : List Byte
  deriving DecidableEq, Repr

/-- The device configuration (R183): hold limit in ms, edit idle limit in steps of 100 ms, management check
required, attention mask. -/
structure DeviceConfig where
  hold : Nat
  idle : Nat
  checkRequired : Bool
  mask : BitVec 32
  deriving DecidableEq, Repr

/-- The default device configuration (R183). -/
def DeviceConfig.default : DeviceConfig :=
  { hold := Config.defaultHold, idle := Config.defaultIdle, checkRequired := false, mask := 0 }

/-! ### The whole part -/

/-- The state of the part, and the queue of commands that wait. -/
structure State where
  inReset : Bool
  mgmtAddr : Addr7
  config : DeviceConfig
  resp : Response
  port : Port
  txn : Option Txn
  slots : Vector Slot 64
  session : Option Session
  tokenCounter : Byte
  staging : List Entry
  frames : Vector Frame 24
  fill : Option Fill
  segs : PerSegment Segment
  att : Attention
  pending : List Instr
  deriving DecidableEq, Repr

/-- Every block at its device reset value (R26, R31, R56, R77, R99, R121, R170 steps 1 to 3, R179, R183), with the
sampled address, the levels of the alert lines and the waiting commands given. -/
def State.blank (address : Addr7) (alerts : PerSegment Bool) (queue : List Instr) : State :=
  { inReset := false
    mgmtAddr := address
    config := .default
    resp := { status := .resetDone, tag := 0, data := [] }
    port := .idle
    txn := none
    slots := Vector.replicate 64 Slot.free
    session := none
    tokenCounter := 0
    staging := []
    frames := Vector.replicate 24 Frame.empty
    fill := none
    segs := ⟨.reset alerts.a, .reset alerts.b, .reset alerts.c, .reset alerts.d⟩
    att := .clear
    pending := queue }

/-- The part right after device reset, unstrapped (management address 5Ch) and with the alert lines high (log
entry 6): every block at its reset value, RESET_OCCURRED raised and the device stamp 01h (R170). -/
def State.reset : State :=
  { State.blank 0x5C (.all false) [] with att := { Attention.clear with device := { flags := 1, stamp := 1 } } }

end Sys2Proof.Machine
end

