-- ==== Sys2Proof/Machine/Flags.lean ====
section
/-! DEFINITION. Attention flags: their bits and mask positions, raising and clearing, and the level of ALERT_N. -/

namespace Sys2Proof.Machine

/-- The device flags, in the order of their bits (R161, R196). -/
inductive DeviceFlag where
  | resetOccurred | tableCleared | editExpired | upstreamTimeout
  deriving DecidableEq, Repr

/-- The slot flags, in the order of their bits (R161, R196). -/
inductive SlotFlag where
  | targetNack | timeout | holdExpired | writeRefused | lengthExceeded | checkFail | frameDropped | noBuffer
  | accessDenied | refused | segmentDown | targetAlert | quarantined | revived | retired
  deriving DecidableEq, Repr

/-- The segment flags, in the order of their bits (R161, R196). -/
inductive SegFlag where
  | lowTimeout | recovered | segmentFaulted | arbLost | discoveryDone | discoveryAborted | unroutedAlert
  | alertUnanswered | alertStuck
  deriving DecidableEq, Repr

/-- The bit of a device flag in the device flag set (R196). -/
def DeviceFlag.bit : DeviceFlag → Nat
  | .resetOccurred => 0 | .tableCleared => 1 | .editExpired => 2 | .upstreamTimeout => 3

/-- The bit of a slot flag in a slot's flag set (R196). -/
def SlotFlag.bit : SlotFlag → Nat
  | .targetNack => 0 | .timeout => 1 | .holdExpired => 2 | .writeRefused => 3 | .lengthExceeded => 4
  | .checkFail => 5 | .frameDropped => 6 | .noBuffer => 7 | .accessDenied => 8 | .refused => 9
  | .segmentDown => 10 | .targetAlert => 11 | .quarantined => 12 | .revived => 13 | .retired => 14

/-- The bit of a segment flag in a segment's flag set (R196). -/
def SegFlag.bit : SegFlag → Nat
  | .lowTimeout => 0 | .recovered => 1 | .segmentFaulted => 2 | .arbLost => 3 | .discoveryDone => 4
  | .discoveryAborted => 5 | .unroutedAlert => 6 | .alertUnanswered => 7 | .alertStuck => 8

/-- The number of flag kinds of the device, of a slot and of a segment (R161). -/
def deviceFlagCount : Nat := 4
/-- The number of slot flag kinds (R161). -/
def slotFlagCount : Nat := 15
/-- The number of segment flag kinds (R161). -/
def segFlagCount : Nat := 9

/-- A raise on one owner: a clear flag becomes set and the stamp rises by 1, a set flag changes nothing (R162). -/
def Owner.raise (o : Owner) (bit : Nat) : Owner :=
  if o.flags.getLsbD bit then o else { flags := o.flags ||| (1#16 <<< bit), stamp := o.stamp + 1 }

/-- Every flag of the owner cleared, the stamp kept (R163). -/
def Owner.cleared (o : Owner) : Owner := { o with flags := 0 }

/-- The named flags cleared, the others and the stamp kept (R167). -/
def Owner.acknowledge (o : Owner) (named : BitVec 16) : Owner := { o with flags := o.flags &&& ~~~named }

/-- The attention owner of a slot. -/
def State.slotOwner (s : State) (i : SlotId) : Owner := s.att.slots.get i

/-- The attention owner of a segment. -/
def State.segOwner (s : State) (g : Seg) : Owner := s.att.segs.get g

/-- The device's flags and stamp replaced. -/
def State.setDeviceOwner (s : State) (o : Owner) : State := { s with att := { s.att with device := o } }

/-- One slot's flags and stamp replaced. -/
def State.setSlotOwner (s : State) (i : SlotId) (o : Owner) : State :=
  { s with att := { s.att with slots := s.att.slots.set i o } }

/-- One segment's flags and stamp replaced. -/
def State.setSegOwner (s : State) (g : Seg) (o : Owner) : State :=
  { s with att := { s.att with segs := s.att.segs.set g o } }

/-- A device flag raised (R162). -/
def State.raiseDevice (s : State) (f : DeviceFlag) : State := s.setDeviceOwner (s.att.device.raise f.bit)

/-- A slot flag raised (R162). -/
def State.raiseSlot (s : State) (i : SlotId) (f : SlotFlag) : State :=
  s.setSlotOwner i ((s.slotOwner i).raise f.bit)

/-- A slot flag raised when the condition holds. -/
def State.raiseSlotIf (s : State) (c : Bool) (i : SlotId) (f : SlotFlag) : State :=
  if c then s.raiseSlot i f else s

/-- A segment flag raised (R162). -/
def State.raiseSeg (s : State) (g : Seg) (f : SegFlag) : State := s.setSegOwner g ((s.segOwner g).raise f.bit)

/-- Every flag of a slot cleared, its stamp kept (R163). -/
def State.clearSlotFlags (s : State) (i : SlotId) : State := s.setSlotOwner i (s.slotOwner i).cleared

/-- Whether a flag set holds a flag that the mask leaves unmasked. The mask positions of an owner kind begin at
`base` (R196): 0 for the device, 4 for the slots, 19 for the segments. -/
def unmasked (mask : BitVec 32) (base : Nat) (flags : BitVec 16) : Bool :=
  flags &&& ~~~((mask >>> base).setWidth 16) != 0

/-- Whether some owner holds an unmasked set flag (R169, L11). -/
def Attention.anyUnmasked (a : Attention) (mask : BitVec 32) : Bool :=
  unmasked mask 0 a.device.flags
    || a.slots.toList.any (fun o => unmasked mask 4 o.flags)
    || unmasked mask 19 a.segs.a.flags || unmasked mask 19 a.segs.b.flags
    || unmasked mask 19 a.segs.c.flags || unmasked mask 19 a.segs.d.flags

/-- Whether the part drives ALERT_N low: exactly while an unmasked flag is set (R169, L11), and never while device
reset lasts (R170, R203). -/
def State.alertDrivenLow (s : State) : Bool := !s.inReset && s.att.anyUnmasked s.config.mask

end Sys2Proof.Machine
end

