-- ==== Sys2Proof/Machine/Operands.lean ====
section
/-! DEFINITION. The encodings of the upstream port: the code tables, the check byte, route records and
configurations as bytes, member sets, and the argument values that are refused. -/

namespace Sys2Proof.Machine

/-! ### The check byte (R198) -/

/-- One shift of the CRC register. -/
def crcShift (r : Byte) : Byte := if r.msb then (r <<< 1) ^^^ 0x31 else r <<< 1

/-- One byte fed to the CRC register: combined by exclusive-or, then eight shifts (R198). -/
def crcFeed (r b : Byte) : Byte :=
  crcShift (crcShift (crcShift (crcShift (crcShift (crcShift (crcShift (crcShift (r ^^^ b))))))))

/-- The CRC-8 of a list of bytes: generator 31h, start value FFh, no final inversion (R198). -/
def crc8 (bytes : List Byte) : Byte := bytes.foldl crcFeed 0xFF

/-! ### Address bytes (R197) -/

/-- The address byte of a 7-bit address: address × 2, plus 1 for a read (R197). -/
def addressByteOf (a : Addr7) (read : Bool) : Byte := (a.setWidth 8 <<< 1) ||| (if read then 1 else 0)

/-- The upstream write address byte or bytes of a key (R106, R197). -/
def Key.writeBytes (k : Key) : List Byte :=
  match k.form with
  | .seven => [addressByteOf (k.addr.setWidth 7) false]
  | .ten => [0xF0 ||| (((k.addr >>> 8).setWidth 8) <<< 1), k.addr.setWidth 8]

/-- The key of a 10-bit form: upper bits xx and lower byte (R65). -/
def tenKey (upper : BitVec 2) (lower : Byte) : Key := { form := .ten, addr := upper ++ lower }

/-- The key of a 7-bit address (R61). -/
def sevenKey (a : Addr7) : Key := { form := .seven, addr := a.setWidth 10 }

/-- Whether an address is one of the 112 device addresses 08h to 77h. -/
def isTarget (a : Addr7) : Bool := Config.firstTarget ≤ a && a ≤ Config.lastTarget

/-! ### Code tables (R193) -/

/-- A count as one byte. -/
def byteOf (n : Nat) : Byte := BitVec.ofNat 8 n

/-- A yes-no item as a byte (R193). -/
def boolByte (b : Bool) : Byte := if b then 1 else 0

/-- The segment code (R193). -/
def segByte : Seg → Byte
  | .a => 0 | .b => 1 | .c => 2 | .d => 3

/-- The segment of a segment byte; 04h to FFh name none (R199). -/
def segOfByte (b : Byte) : Option Seg :=
  if b = 0 then some .a else if b = 1 then some .b else if b = 2 then some .c else if b = 3 then some .d else none

/-- The segment of the two segment bits of a route record, which are never out of range (R199). -/
def segOfBits (b : BitVec 2) : Seg := if b = 0 then .a else if b = 1 then .b else if b = 2 then .c else .d

/-- The slot of a slot byte; 40h to FFh name none (R199). -/
def slotOfByte (b : Byte) : Option SlotId := if h : b.toNat < 64 then some ⟨b.toNat, h⟩ else none

/-- A slot number as a byte. -/
def slotByte (i : SlotId) : Byte := byteOf i.val

/-- The slot state code (R193). -/
def SlotState.code : SlotState → Byte
  | .free => 0 | .live => 1 | .held => 2 | .quarantined => 3 | .draining => 4

/-- The in-flight marker code (R193). -/
def Marker.code : Marker → Byte
  | .none => 0 | .routed => 1 | .delivery => 2

/-- The segment state code (R193). -/
def SegState.code : SegState → Byte
  | .disabled => 0 | .idle => 1 | .external => 2 | .owned => 3 | .recovering => 4 | .faulted => 5

/-- The sub-kind code of a transaction in progress (R193). -/
def Work.code : Work → Byte
  | .routed _ => 1 | .delivery _ _ _ => 2 | .probe _ => 3 | .identify _ _ => 4

/-- The access code (R193). -/
def Access.bits : Access → BitVec 2
  | .readWrite => 0 | .readOnly => 1 | .writeOnly => 2

/-- The check mode code (R193). -/
def CheckMode.bits : CheckMode → BitVec 2
  | .off => 0 | .verify => 1 | .verifyRegen => 2

/-- The drain choice code (R193). -/
def Drain.code : Drain → Byte
  | .drain => 0 | .discard => 1

/-- The action code (R193). -/
def Action.code : Action → Byte
  | .create _ _ => 1 | .modify _ _ => 2 | .retire _ => 3

/-- The speed code (R193). -/
def Speed.code : Speed → Byte
  | .khz100 => 0 | .khz400 => 1

/-- The status code (R193). -/
def Status.code : Status → Byte
  | .ok => 0x00 | .accepted => 0x01 | .resetDone => 0x02 | .badCommand => 0x10 | .badLength => 0x11
  | .badCheck => 0x12 | .badArgument => 0x13 | .noSession => 0x20 | .wrongToken => 0x21 | .sessionBusy => 0x22
  | .stagingFull => 0x23 | .validationFailed => 0x24 | .notFound => 0x30 | .wrongState => 0x31 | .busy => 0x32
  | .stale => 0x33

/-- The fields that a BAD_ARGUMENT names (R199). -/
inductive Field where
  | slot | action | virtual | target | access | checkMode | maxLength | faultLimit | drain | segment | enable
  | speed | lowLimit | retry | alertAddress | holdLimit | idleLimit | checkRequired | mask | owner | flags | scope
  | form
  deriving DecidableEq, Repr

/-- The field code (R199). -/
def Field.code : Field → Byte
  | .slot => 0x01 | .action => 0x02 | .virtual => 0x03 | .target => 0x04 | .access => 0x05 | .checkMode => 0x06
  | .maxLength => 0x07 | .faultLimit => 0x08 | .drain => 0x09 | .segment => 0x0A | .enable => 0x0B
  | .speed => 0x0C | .lowLimit => 0x0D | .retry => 0x0E | .alertAddress => 0x0F | .holdLimit => 0x10
  | .idleLimit => 0x11 | .checkRequired => 0x12 | .mask => 0x13 | .owner => 0x14 | .flags => 0x15
  | .scope => 0x16 | .form => 0x17

/-- The reasons a commit entry fails (R43 to R46). -/
inductive CommitReason where
  | slotNotFree | slotFree | slotRetiring | keyInUse | targetInUse
  deriving DecidableEq, Repr

/-- The commit reason code (R193). -/
def CommitReason.code : CommitReason → Byte
  | .slotNotFree => 1 | .slotFree => 2 | .slotRetiring => 3 | .keyInUse => 4 | .targetInUse => 5

/-- A two-byte number or flag set, high byte first (R192). -/
def twoBytes (w : BitVec 16) : List Byte := [w.extractLsb' 8 8, w.extractLsb' 0 8]

/-- The attention mask, most significant byte first (R192). -/
def maskBytes (m : BitVec 32) : List Byte :=
  [m.extractLsb' 24 8, m.extractLsb' 16 8, m.extractLsb' 8 8, m.extractLsb' 0 8]

/-- A byte of a member set: the first member at the top bit (R192). -/
def setByte (members : List Bool) : Byte :=
  members.foldl (fun r b => (r <<< 1) ||| boolByte b) 0

/-- A member set packed eight members a byte (R192). -/
def packSet : Nat → List Bool → List Byte
  | 0, _ => []
  | n + 1, members => setByte (members.take 8) :: packSet n (members.drop 8)

/-! ### Route records (R195, R199) -/

/-- A route record as ROUTE_READ sends it, the start-held bit sent as 0 (R195). -/
def RouteRecord.encode (r : RouteRecord) : List Byte :=
  [ (if r.key.form = .ten then 0x80 else 0) ||| (r.access.bits.setWidth 8 <<< 5)
      ||| (if r.mode = .posted then 0x10 else 0) ||| (r.check.bits.setWidth 8 <<< 2)
      ||| (if r.autoRevive then 0x02 else 0),
    (r.key.addr >>> 8).setWidth 8, r.key.addr.setWidth 8, segByte r.seg, r.target.setWidth 8, byteOf r.maxLen,
    byteOf r.faultLimit ]

/-- Whether a key is one a route or a query may name: SEVEN 08h to 77h without the management address, TEN any ten
bits (R3, R37, R199). -/
def keyAllowed (mgmtAddr : Addr7) (k : Key) : Bool :=
  match k.form with
  | .seven => 0x08 ≤ k.addr && k.addr ≤ 0x77 && k.addr != mgmtAddr.setWidth 10
  | .ten => true

/-- The access of the two access bits (R193, R199). -/
def accessOfBits (b : BitVec 2) : Option Access :=
  if b = 0 then some .readWrite else if b = 1 then some .readOnly else if b = 2 then some .writeOnly else none

/-- The check mode of the two check bits (R193, R199). -/
def checkOfBits (b : BitVec 2) : Option CheckMode :=
  if b = 0 then some .off else if b = 1 then some .verify else if b = 2 then some .verifyRegen else none

/-- A route record from its seven bytes with the start-held choice, or the first field that R37 refuses: VIRTUAL,
TARGET, ACCESS, CHECK_MODE, MAX_LENGTH, FAULT_LIMIT in this order (R37, R195, R199). -/
def parseRecord (mgmtAddr : Addr7) (flags high low segment target maxLen faultLimit : Byte) :
    Except Field (RouteRecord × Bool) :=
  let key : Key := { form := if flags.getLsbD 7 then .ten else .seven, addr := high.setWidth 2 ++ low }
  let mode := if flags.getLsbD 4 then WriteMode.posted else .cutThrough
  if high.extractLsb' 2 6 ≠ 0 ∨ keyAllowed mgmtAddr key = false then .error .virtual
  else if target.getLsbD 7 ∨ isTarget (target.setWidth 7) = false then .error .target
  else match accessOfBits (flags.extractLsb' 5 2) with
  | none => .error .access
  | some access =>
    match checkOfBits (flags.extractLsb' 2 2) with
    | none => .error .checkMode
    | some check =>
      if check ≠ .off ∧ mode = .cutThrough then .error .checkMode
      else if maxLen = 0 ∨ 0x20 < maxLen then .error .maxLength
      else if faultLimit = 0 ∨ 0x0F < faultLimit then .error .faultLimit
      else .ok
        ({ key := key, seg := segOfBits (segment.setWidth 2), target := target.setWidth 7, access := access,
           mode := mode, check := check, maxLen := maxLen.toNat, faultLimit := faultLimit.toNat,
           autoRevive := flags.getLsbD 1 }, flags.getLsbD 0)

/-- The action of an EDIT_STAGE from its action code and the bytes after it, or the first field that R37 refuses
(R37, R195). Frames whose length does not suit the action do not reach this check (R176). -/
def parseAction (mgmtAddr : Addr7) (action : Byte) (entry : List Byte) : Except Field Action :=
  match entry with
  | [f, h, l, g, t, n, q] =>
    if action = 1 then (parseRecord mgmtAddr f h l g t n q).map (fun p => .create p.1 p.2)
    else if action = 2 then (parseRecord mgmtAddr f h l g t n q).map (fun p => .modify p.1 p.2)
    else .error .action
  | [d] =>
    if action = 3 then
      if d = 0 then .ok (.retire .drain) else if d = 1 then .ok (.retire .discard) else .error .drain
    else .error .action
  | _ => .error .action

/-! ### Segment and device configurations (R123, R185, R195) -/

/-- A configuration as SEGMENT_STATUS sends it (R195). -/
def SegConfig.encode (c : SegConfig) : List Byte :=
  [boolByte c.enable, c.speed.code, byteOf c.lowLimit, byteOf c.retry, c.alertAddr.setWidth 8]

/-- A configuration from the five bytes of SEGMENT_CONFIG, or the first field that R123 refuses. -/
def parseSegConfig (enable speed lowLimit retry alert : Byte) : Except Field SegConfig :=
  if 1 < enable then .error .enable
  else if 1 < speed then .error .speed
  else if lowLimit < 10 ∨ 40 < lowLimit then .error .lowLimit
  else if 3 < retry then .error .retry
  else if alert ≠ 0 ∧ (alert.getLsbD 7 ∨ isTarget (alert.setWidth 7) = false) then .error .alertAddress
  else .ok
    { enable := enable = 1, speed := if speed = 1 then .khz400 else .khz100, lowLimit := lowLimit.toNat,
      retry := retry.toNat, alertAddr := alert.setWidth 7 }

/-- The device configuration as DEVICE_CONFIG_READ and DEVICE_CONFIG_WRITE carry it (R184, R195). -/
def DeviceConfig.encode (c : DeviceConfig) : List Byte :=
  [byteOf c.hold, byteOf c.idle, boolByte c.checkRequired] ++ maskBytes c.mask

/-- A device configuration from the seven bytes of DEVICE_CONFIG_WRITE, or the first field that R185 refuses. -/
def parseDeviceConfig (hold idle required m3 m2 m1 m0 : Byte) : Except Field DeviceConfig :=
  if hold = 0 ∨ 50 < hold then .error .holdLimit
  else if idle = 0 then .error .idleLimit
  else if 1 < required then .error .checkRequired
  else if m3.extractLsb' 4 4 ≠ 0 then .error .mask
  else .ok { hold := hold.toNat, idle := idle.toNat, checkRequired := required = 1, mask := m3 ++ m2 ++ m1 ++ m0 }

/-! ### Owners of attention flags (R166, R195) -/

/-- An owner of attention flags (R161). -/
inductive OwnerRef where
  | device | slot (i : SlotId) | seg (g : Seg)
  deriving DecidableEq, Repr

/-- The owner of an owner kind and number, or none where R199 refuses them. -/
def ownerOfBytes (kind number : Byte) : Option OwnerRef :=
  if kind = 0 then (if number = 0 then some .device else none)
  else if kind = 1 then (slotOfByte number).map .slot
  else if kind = 2 then (segOfByte number).map .seg
  else none

/-- The owner kind and number as bytes (R195). -/
def OwnerRef.bytes : OwnerRef → List Byte
  | .device => [0, 0]
  | .slot i => [1, slotByte i]
  | .seg g => [2, segByte g]

/-! ### The response buffer (R179) -/

/-- The bytes of the response buffer: status, tag, length, data, and the CRC over the management read address byte
and these (R179, R194). -/
def Response.bytes (r : Response) (mgmtAddr : Addr7) : List Byte :=
  let body := r.status.code :: r.tag :: byteOf r.data.length :: r.data
  body ++ [crc8 (addressByteOf mgmtAddr true :: body)]

end Sys2Proof.Machine
end

