-- ==== Sys2Proof/Machine/Ops.lean ====
section
/-! DEFINITION. The named operations over the parts of the state: accessors, what the manual defines as computed,
lookups, the frame pool, presence and the arbiter. -/

namespace Sys2Proof.Machine

/-! ### Accessors -/

/-- The slots, in number order. -/
def allSlots : List SlotId := List.finRange 64

/-- The frames, in number order. -/
def allFrames : List FrameId := List.finRange 24

/-- The segments, in letter order. -/
def allSegs : List Seg := [.a, .b, .c, .d]

/-- One segment controller. -/
def State.seg (s : State) (g : Seg) : Segment := s.segs.get g

/-- One segment controller replaced. -/
def State.setSeg (s : State) (g : Seg) (x : Segment) : State := { s with segs := s.segs.set g x }

/-- One slot. -/
def State.slot (s : State) (i : SlotId) : Slot := s.slots.get i

/-- One slot replaced. -/
def State.setSlot (s : State) (i : SlotId) (x : Slot) : State := { s with slots := s.slots.set i x }

/-- One frame. -/
def State.frame (s : State) (f : FrameId) : Frame := s.frames.get f

/-- One frame replaced. -/
def State.setFrame (s : State) (f : FrameId) (x : Frame) : State := { s with frames := s.frames.set f x }

/-- A frame back in the free pool: byte list empty, owner absent, marks clear (R98). The caller takes it out of the
place it was in. -/
def State.clearFrame (s : State) (f : FrameId) : State := s.setFrame f .empty

/-- The response buffer written (R179). -/
def State.respond (s : State) (status : Status) (tag : Byte) (data : List Byte) : State :=
  { s with resp := { status := status, tag := tag, data := data } }

/-- The answer BAD_ARGUMENT, naming the field that was refused (R178, R194). -/
def State.badArgument (s : State) (tag : Byte) (f : Field) : State := s.respond .badArgument tag [f.code]

/-! ### What the manual defines as computed -/

/-- How many frames of a slot stand in a segment's posted queue. -/
def State.queuedOn (s : State) (g : Seg) (i : SlotId) : Nat :=
  ((s.seg g).queue.filter (fun f => (s.frame f).owner = some i)).length

/-- The queued-frames field of a slot: its frames in the queue of the segment of its current record (R9). -/
def State.queued (s : State) (i : SlotId) : Nat :=
  match (s.slot i).cur with
  | none => 0
  | some r => s.queuedOn r.seg i

/-- The frame under delivery by a transaction that a soft reset has not detached. -/
def Down.deliveredFrame (d : Down) : Option FrameId :=
  match d.work with
  | .delivery f _ _ => if d.detached then none else some f
  | _ => none

/-- Whether a segment delivers a frame of the slot. -/
def State.deliversFor (s : State) (i : SlotId) (g : Seg) : Bool :=
  match (s.seg g).down.bind Down.deliveredFrame with
  | some f => (s.frame f).owner = some i
  | none => false

/-- The in-flight marker of a slot (R8). -/
def State.marker (s : State) (i : SlotId) : Marker :=
  if allSegs.any (s.deliversFor i) then .delivery
  else match s.txn with
    | some t => if t.slot = i then .routed else .none
    | none => .none

/-- The reservation count of a segment, 0 or 1: a frame in the fill position holds a place on its segment until it
is orphaned (R100, R101, R103). -/
def State.reserved (s : State) (g : Seg) : Nat :=
  match s.fill with
  | some p => if p.seg = g ∧ (s.frame p.frame).orphan = false then 1 else 0
  | none => 0

/-- Whether a frame is out of the free pool: in the fill position or in a queue (R98, L3). -/
def State.frameOut (s : State) (f : FrameId) : Bool :=
  s.fill.any (fun p => p.frame = f) || allSegs.any (fun g => (s.seg g).queue.contains f)

/-- The frame the pool gives out: the free frame with the lowest number (R98). -/
def State.lowestFree (s : State) : Option FrameId := allFrames.find? (fun f => !s.frameOut f)

/-- Whether a transaction is a probe that a soft reset has not detached. -/
def Down.isProbe (d : Down) : Bool :=
  match d.work with
  | .probe _ => !d.detached
  | _ => false

/-- Whether a transaction is an identify read that a soft reset has not detached. -/
def Down.isIdentify (d : Down) : Bool :=
  match d.work with
  | .identify _ _ => !d.detached
  | _ => false

/-- Whether a probe of the part runs on the segment. -/
def Segment.probing (x : Segment) : Bool := x.down.any Down.isProbe

/-- Whether an identify read of the part runs on the segment. -/
def Segment.identifying (x : Segment) : Bool := x.down.any Down.isIdentify

/-- The probe claim: present while the discovery cursor is present and no probe runs (R120, R149). -/
def Segment.probeClaim (x : Segment) : Bool := x.cursor.isSome && !x.probing

/-- Whether the segment is in service for routed address phases (check 3 of R61). -/
def SegState.inService : SegState → Bool
  | .idle | .external | .owned => true
  | .disabled | .recovering | .faulted => false

/-- The identify claim: present exactly while the five conditions of R155 hold. -/
def Segment.identifyClaim (x : Segment) : Bool :=
  x.alertLow && x.cfg.alertAddr != 0 && (x.state.inService || x.state = .recovering)
    && x.idCount < Config.identifyLimit && !x.identifying

/-! ### Lookups (R5, R6) -/

/-- The slot that satisfies a test of its current record, in any state except FREE. -/
def State.findSlot (s : State) (test : RouteRecord → Bool) : Option SlotId :=
  allSlots.find? (fun i => (s.slot i).state != .free && (s.slot i).cur.any test)

/-- Forward lookup: the slot whose current record holds the key (R5). -/
def State.forward (s : State) (k : Key) : Option SlotId := s.findSlot (fun r => r.key = k)

/-- Reverse lookup: the slot whose current record names the segment and target (R6). -/
def State.reverse (s : State) (g : Seg) (t : Addr7) : Option SlotId := s.findSlot (fun r => r.seg = g ∧ r.target = t)

/-- The query of a 10-bit first byte: whether some slot that is not FREE has a TEN key with these upper bits (R5). -/
def State.tenQuery (s : State) (upper : BitVec 2) : Bool :=
  (s.findSlot (fun r => r.key.form = .ten ∧ r.key.addr.extractLsb' 8 2 = upper)).isSome

/-- Checks 1 to 3 of R61 on a slot for a direction: the flag of the first that fails, or none when all pass. -/
def State.addressCheck (s : State) (i : SlotId) (read : Bool) : Option SlotFlag :=
  match (s.slot i).cur with
  | none => some .refused
  | some r =>
    if (s.slot i).state ≠ .live ∨ (s.slot i).pend.isSome then some .refused
    else if (if read then r.access = .writeOnly else r.access = .readOnly) then some .accessDenied
    else if (s.seg r.seg).state.inService then none
    else some .segmentDown

/-! ### The presence map (R146, R147) -/

/-- The map entry of an address; an address outside 08h to 77h has none and reads UNKNOWN. -/
def Segment.presenceOf (x : Segment) (a : Addr7) : Presence :=
  if h : a.toNat - 8 < 112 then (if isTarget a then x.presence[a.toNat - 8] else .unknown) else .unknown

/-- The map after an address byte whose acknowledge bit was read: ACK is PRESENT, NACK is ABSENT; an address outside
08h to 77h is not entered (R147). -/
def Segment.note (x : Segment) (a : Addr7) (ack : Bool) : Segment :=
  if h : a.toNat - 8 < 112 then
    if isTarget a then { x with presence := x.presence.set (a.toNat - 8) (if ack then .present else .absent) }
    else x
  else x

/-- The map update of a segment in service. What is left of a transaction after SOFT_RESET ALL does not reach the
map, which is UNKNOWN while the segment is DISABLED (L10; log entry 10). -/
def State.notePresence (s : State) (g : Seg) (a : Addr7) (ack : Bool) : State :=
  if (s.seg g).state = .owned then s.setSeg g ((s.seg g).note a ack) else s

/-! ### A transaction of the part on the lines (R131, R132) -/

/-- A transaction as a grant begins it: a START and the address byte. -/
def Down.begin (work : Work) (target : Addr7) (read : Bool) (left : List Byte) : Down :=
  { work := work, pos := .addr, target := target, read := read, first := true, out := addressByteOf target read,
    left := left, after := .goOn, detached := false, clear := false }

/-- The transaction told to end at the next byte boundary with STOP (R132). -/
def Down.endAtBoundary (d : Down) : Down :=
  match d.pos with
  | .boundary | .readAck | .stop => { d with pos := .stop, after := .stop }
  | .addr | .byte | .readByte => { d with after := .stop }

/-- A downstream repeated START and the target address byte (R69, R86, R91). -/
def Down.restart (d : Down) (read : Bool) : Down :=
  { d with work := .routed false, pos := .addr, read := read, first := false,
           out := addressByteOf d.target read, left := [], after := .goOn }

/-- Whether the part itself holds the segment's SCL in the transaction: at a byte boundary, or before the acknowledge bit
of a read byte. The low-limit timer does not run then (R135). -/
def Down.holdsScl (d : Down) : Bool := d.pos = .boundary || d.pos = .readAck

/-- The transaction in progress on a segment after a byte on its lines. In OWNED the low-limit timer starts from 0, or
stops while the part holds SCL (R135; log entry 4). -/
def Segment.withDown (x : Segment) (d : Down) : Segment :=
  { x with down := some d, low := if x.state = .owned then (if d.holdsScl then none else some 0) else x.low }

/-- The transaction in progress on a segment changed without a byte on its lines. In OWNED the low-limit timer starts when
the part releases SCL, stops when it holds SCL, and runs on otherwise (R135; log entry 4). -/
def Segment.mapDown (x : Segment) (f : Down → Down) : Segment :=
  { x with
    down := x.down.map f
    low := if x.state = .owned then
        (x.down.map f).bind fun d => if d.holdsScl then none else some (x.low.getD 0)
      else x.low }

/-- The transaction in progress on a segment after a byte on its lines. -/
def State.setDown (s : State) (g : Seg) (d : Down) : State := s.setSeg g ((s.seg g).withDown d)

/-- The segment's transaction changed, if there is one. -/
def State.mapDown (s : State) (g : Seg) (f : Down → Down) : State := s.setSeg g ((s.seg g).mapDown f)

/-- The segment's transaction, if any, told to end at the next byte boundary. -/
def State.endDownAtBoundary (s : State) (g : Seg) : State := s.mapDown g Down.endAtBoundary

/-! ### The arbiter (R129, R130) -/

/-- The claims a grant can name. -/
inductive Grant where
  | probe (cursor : Addr7)
  | routed (claim : Claim)
  | identify
  | head (frame : FrameId)
  deriving DecidableEq, Repr

/-- The claim the arbiter of an IDLE segment grants, in the order of R130. A routed claim at an IDLE segment is a
waiting one; where its slot has queued frames, the queue head goes in its place. -/
def State.chooseGrant (s : State) (g : Seg) : Option Grant :=
  let x := s.seg g
  let probe := if x.probing then none else x.cursor.map Grant.probe
  let head := x.queue.head?.map Grant.head
  let routed := x.claim.bind (fun c => if s.queued c.slot = 0 then some (.routed c) else head.orElse (fun _ => some (.routed c)))
  let identify := if x.identifyClaim then some Grant.identify else none
  let first := if x.fair = Config.fairnessLimit then probe else none
  first.orElse fun _ => routed.orElse fun _ => identify.orElse fun _ => head.orElse fun _ => probe

/-- The target of a slot's current record; a slot without a record has none to send, and no grant is made for one
(R1, L5). -/
def State.targetOf (s : State) (i : SlotId) : Addr7 := ((s.slot i).cur.map RouteRecord.target).getD 0

/-- The bytes a frame sends after the address byte: its data bytes, and the regenerated check byte when the frame is
verified and its slot's check mode is VERIFY_REGEN (R109, R111). -/
def State.frameSends (s : State) (i : SlotId) (f : FrameId) : List Byte :=
  let x := s.frame f
  let regen := x.verified && (s.slot i).cur.any (fun r => r.check = .verifyRegen)
  x.bytes ++ (if regen then [crc8 (addressByteOf (s.targetOf i) false :: x.bytes)] else [])

/-- The bytes a compound frame sends after the write address byte: those of the frame, and nothing at all when it has no
data bytes (R91). -/
def State.compoundSends (s : State) (i : SlotId) (f : FrameId) : List Byte :=
  if (s.frame f).bytes = [] then [] else s.frameSends i f

/-- The segment made OWNED by a grant (R131); the part drives a START and the address byte. -/
def State.own (s : State) (g : Seg) (d : Down) (fair : Nat) : State :=
  s.setSeg g ({ s.seg g with state := .owned, fair := fair, busFree := none }.withDown d)

/-- The probe fairness count after a grant of steps 2 to 4 of R130: one more while the cursor is present. -/
def Segment.fairNext (x : Segment) : Nat := if x.cursor.isSome then x.fair + 1 else x.fair

/-- The stage of the transaction record replaced. -/
def State.setStage (s : State) (st : Stage) : State := { s with txn := s.txn.map (fun t => { t with stage := st }) }

/-- The effect of a grant (R78, R91, R109, R131, R150, R156). -/
def State.grant (s : State) (g : Seg) : Grant → State
  | .probe c => s.own g (.begin (.probe true) c false []) 0
  | .routed c =>
    match s.txn.bind Txn.frame with
    | some f =>
      (s.own g (.begin (.routed true) (s.targetOf c.slot) false (s.compoundSends c.slot f)) (s.seg g).fairNext).setStage
        .frameOut
    | none => (s.own g (.begin (.routed false) (s.targetOf c.slot) c.read []) (s.seg g).fairNext).setStage .address
  | .identify => s.own g (.begin (.identify none none) (s.seg g).cfg.alertAddr true []) (s.seg g).fairNext
  | .head f =>
    match (s.frame f).owner with
    | some i => s.own g (.begin (.delivery f none false) (s.targetOf i) false (s.frameSends i f)) (s.seg g).fairNext
    | none => s.own g (.begin (.delivery f none false) 0 false (s.frame f).bytes) (s.seg g).fairNext

/-- The arbiter's run: an IDLE segment with a waiting claim grants one (R130). -/
def State.arbitrate (s : State) (g : Seg) : State :=
  if (s.seg g).state = .idle then
    match s.chooseGrant g with
    | some x => s.grant g x
    | none => s
  else s

end Sys2Proof.Machine
end

