-- ==== Sys2Proof/Machine/Table.lean ====
section
/-! DEFINITION. The route table's operations: freeing and retiring a slot, pending records, counting outcomes,
quarantine, the report of an outcome, and what the upstream port does when a routed phase ends under it. -/

namespace Sys2Proof.Machine

/-! ### The fill position and purges (R98, R101, R115) -/

/-- The frame in the fill position returned to the free pool, and the fill position emptied (R98, R101). -/
def State.releaseFill (s : State) : State :=
  match s.fill with
  | none => s
  | some p => ({ s with fill := none }).clearFrame p.frame

/-- Frames returned to the free pool. -/
def State.clearFrames (s : State) (fs : List FrameId) : State := fs.foldl State.clearFrame s

/-- Whether a slot owns a frame. -/
def State.owns (s : State) (i : SlotId) (f : FrameId) : Bool := (s.frame f).owner = some i

/-- A slot purge: every frame of the slot out of its segment's queue and back to the pool, the others in order; the
head loss count becomes 0 when the head is removed (R115). -/
def State.purgeSlot (s : State) (i : SlotId) : State :=
  match (s.slot i).cur with
  | none => s
  | some r =>
    let x := s.seg r.seg
    let headGone := x.queue.head?.any (s.owns i)
    let kept := { x with queue := x.queue.filter (fun f => !s.owns i f)
                         headLoss := if headGone then 0 else x.headLoss }
    (s.setSeg r.seg kept).clearFrames (x.queue.filter (s.owns i))

/-! ### Freeing and retiring (R14 to R17) -/

/-- A slot freed by retirement: record, counters and flags gone, then RETIRED if it passed through DRAINING, then
FRAME_DROPPED if frames of it were discarded in the act (R17). -/
def State.freeSlot (s : State) (i : SlotId) (drained dropped : Bool) : State :=
  (((s.setSlot i .free).clearSlotFlags i).raiseSlotIf drained i .retired).raiseSlotIf dropped i .frameDropped

/-- A retire applied, by the table of R14. `dropped` says that frames of the slot were discarded in the same act. -/
def State.applyRetire (s : State) (i : SlotId) (choice : Drain) (dropped : Bool) : State :=
  if s.queued i = 0 then s.freeSlot i false dropped
  else match choice with
    | .discard => (s.purgeSlot i).freeSlot i false true
    | .drain => s.setSlot i { s.slot i with state := .draining, pend := none }

/-- A MODIFY applied: the record replaced, consecutive faults 0, the state, completed count and flags kept (R13). -/
def State.applyModify (s : State) (i : SlotId) (r : RouteRecord) : State :=
  s.setSlot i { s.slot i with cur := some r, pend := none, faults := 0 }

/-- The examination of a pending record (R11). -/
def State.examinePending (s : State) (i : SlotId) (dropped : Bool) : State :=
  match (s.slot i).pend with
  | none => s
  | some (.retire c) => if s.marker i = .none then s.applyRetire i c dropped else s
  | some (.modify r) => if s.marker i = .none ∧ s.queued i = 0 then s.applyModify i r else s

/-- The DRAINING exit (R16). -/
def State.drainingExit (s : State) (i : SlotId) (dropped : Bool) : State :=
  if (s.slot i).state = .draining ∧ s.marker i = .none ∧ s.queued i = 0 then s.freeSlot i true dropped else s

/-- Steps 3 and 4 of R18: the pending record, then the DRAINING exit. -/
def State.examine (s : State) (i : SlotId) (dropped : Bool) : State :=
  (s.examinePending i dropped).drainingExit i dropped

/-! ### The upstream port when a routed phase ends under it (R71, R72) -/

/-- NACK, and the port NOT_ADDRESSED; a NACKed 10-bit second byte clears the 10-bit memory (R65). -/
def State.nackUp (s : State) (dropTen : Bool) : State :=
  { s with port := { Port.idle with state := .notAddressed, ten := if dropTen then none else s.port.ten, out := .nack } }

/-- Whether the withheld address acknowledge is that of a 10-bit second byte. -/
def Port.waitIsTen (p : Port) : Bool := p.wait.any (fun w => w.ten.isSome)

/-- The end of a stretch without an answer from the target: NACK at an address or a write byte, SCL released and FFh
sent at a read byte; the port enters NOT_ADDRESSED (R71, R72). -/
def State.breakUp (s : State) : State :=
  if s.port.state = .routedRead then
    { s with port := { Port.idle with state := .notAddressed, ten := s.port.ten, out := .byte 0xFF } }
  else s.nackUp s.port.waitIsTen

/-! ### Claims placed and withdrawn (R63, R78, R80) -/

/-- A compound frame that is lost returns to the pool, with FRAME_DROPPED on its slot (R80, R92). -/
def State.dropCompound (s : State) (t : Txn) : State :=
  if t.frame.isSome then s.releaseFill.raiseSlot t.slot .frameDropped else s

/-- The routed claim taken from its arbiter and the transaction record removed. -/
def State.dropTxn (s : State) (t : Txn) : State :=
  ({ s with txn := none }).setSeg t.seg { s.seg t.seg with claim := none }

/-- The withdrawal of a waiting claim, but for its outcome: claim and record removed, a compound frame lost, the
withheld acknowledge answered NACK (R80). -/
def State.withdraw (s : State) (t : Txn) : State := ((s.dropTxn t).dropCompound t).nackUp s.port.waitIsTen

/-- A waiting routed claim withdrawn with outcome ABORTED, which counts nothing and raises nothing, when it is one of
those named (R19, R21, R80). -/
def State.abortWaiting (s : State) (named : Txn → Bool) : State :=
  match s.txn with
  | some t => if t.stage = .waiting ∧ named t then (s.withdraw t).examine t.slot false else s
  | none => s

/-- A claim placed: the transaction record in stage WAITING, the claim at the arbiter, the slot in hand, and the
arbiter's run (R62, R78). A compound read names the frame in the fill position (R90). -/
def State.placeClaim (s : State) (w : Wait) : State :=
  match (s.slot w.slot).cur with
  | none => s
  | some r =>
    let t : Txn := { slot := w.slot, seg := r.seg, stage := .waiting, answered := false, refused := false,
                     phaseRefused := false, count := 0,
                     frame := if w.compound then s.fill.map Fill.frame else none, taken := none }
    let s1 := { s with txn := some t, port := { s.port with hand := some w.slot, wait := some { w with deferred := false } } }
    (s1.setSeg r.seg { s1.seg r.seg with claim := some { slot := w.slot, read := w.read, loss := 0 } }).arbitrate r.seg

/-- A deferred address phase that is not placed: its compound frame, if it still has one, is lost, and the address
is NACKed (R63, R90). -/
def State.dropDeferred (s : State) (w : Wait) : State :=
  (if w.compound then s.releaseFill.raiseSlot w.slot .frameDropped else s).nackUp w.ten.isSome

/-- The recheck of a deferred address phase once the owed outcome has been reported: the claim is placed, or the
address is NACKed with the flag of the check that failed (R63). -/
def State.recheckDeferred (s : State) : State :=
  match s.port.wait with
  | none => s
  | some w =>
    if w.deferred ∧ s.txn = none then
      match s.addressCheck w.slot w.read with
      | none => s.placeClaim w
      | some f => (s.raiseSlot w.slot f).dropDeferred w
    else s

/-! ### Counting outcomes (R19 to R21) -/

/-- A slot enters QUARANTINED: the state and flag, its queued frames purged with FRAME_DROPPED once, and a waiting
routed claim of it withdrawn with ABORTED (R21, R116). -/
def State.quarantine (s : State) (i : SlotId) : State :=
  let lost := 0 < s.queued i
  (((((s.setSlot i { s.slot i with state := .quarantined }).raiseSlot i .quarantined).purgeSlot i).raiseSlotIf
    lost i .frameDropped).abortWaiting (fun t => t.slot = i))

/-- A fault counted: consecutive faults rise by 1 below the fault limit and stay at it otherwise; reaching it
quarantines a LIVE or HELD slot without a pending record (R20). -/
def State.countFault (s : State) (i : SlotId) : State :=
  let x := s.slot i
  let limit := (x.cur.map RouteRecord.faultLimit).getD 0
  if x.faults < limit then
    let s1 := s.setSlot i { x with faults := x.faults + 1 }
    if x.faults + 1 = limit ∧ (x.state = .live ∨ x.state = .held) ∧ x.pend = none then s1.quarantine i else s1
  else s

/-- An outcome counted on the current record of a slot, with its flags (R19). -/
def State.count (s : State) (i : SlotId) (g : Seg) : OutcomeKind → State
  | .complete => s.setSlot i { s.slot i with completed := (s.slot i).completed + 1, faults := 0 }
  | .targetNack => (s.raiseSlot i .targetNack).countFault i
  | .timeout => (s.raiseSlot i .timeout).countFault i
  | .holdExpired true => (s.raiseSlot i .holdExpired).countFault i
  | .holdExpired false => s.raiseSlot i .holdExpired
  | .writeRefused => s.raiseSlot i .writeRefused
  | .arbLost => s.raiseSeg g .arbLost
  | .aborted => s

/-- An outcome reported to the route table: the work's marker has ended, the outcome is counted, then the pending
record and the DRAINING exit are examined (R18). -/
def State.report (s : State) (i : SlotId) (g : Seg) (k : OutcomeKind) (dropped : Bool) : State :=
  (s.count i g k).examine i dropped

/-- The end of the routed transaction: record and claim removed, and the outcome reported (R18, R77). -/
def State.reportTxn (s : State) (k : OutcomeKind) : State :=
  match s.txn with
  | none => s
  | some t => (s.dropTxn t).report t.slot t.seg k false

/-- The end of the routed transaction with its outcome owed no longer: a deferred address phase is checked again
(R63). -/
def State.endTxn (s : State) (k : OutcomeKind) : State := (s.reportTxn k).recheckDeferred

/-- The end of a delivery, steps 2 to 4 of R114: the frame leaves the queue and returns to the pool, the head loss
count becomes 0, FRAME_DROPPED where R112 calls for it, and the outcome is reported. -/
def State.endDelivery (s : State) (g : Seg) (f : FrameId) (k : OutcomeKind) (dropped : Bool) : State :=
  let s1 := (s.setSeg g { s.seg g with queue := (s.seg g).queue.erase f, headLoss := 0 }).clearFrame f
  match (s.frame f).owner with
  | none => s1
  | some i => (s1.raiseSlotIf dropped i .frameDropped).report i g k dropped

/-! ### Taken outcomes (R94) -/

/-- A final outcome taken, unless the transaction holds a final one already (R94). -/
def Txn.takeFinal (t : Txn) (k : OutcomeKind) : Txn :=
  if t.taken.any Taken.final then t else { t with taken := some { kind := k, final := true } }

/-- The outcome taken when the upstream side ends normally: COMPLETE, or WRITE_REFUSED with the refused mark set;
provisional (R94). -/
def Txn.takeNormal (t : Txn) : Txn :=
  if t.taken.any Taken.final then t
  else { t with taken := some { kind := if t.refused then .writeRefused else .complete, final := false } }

/-- The outcome the transaction reports. -/
def Txn.outcome (t : Txn) : OutcomeKind := (t.taken.map Taken.kind).getD .aborted

/-- The upstream side of the routed transaction ends: stage TAIL with the outcome taken, and the segment ends the
downstream transaction at the next byte boundary (R86, R94, R132). -/
def State.endUpstream (s : State) (take : Txn → Txn) : State :=
  match s.txn with
  | none => s
  | some t => ({ s with txn := some { take t with stage := .tail } }).endDownAtBoundary t.seg

end Sys2Proof.Machine
end

