-- ==== Sys2Proof/Machine/Service.lean ====
section
/-! DEFINITION. Segment service: leaving service, installing a configuration, entering IDLE, recovery, the end of a
transaction of the part, and discovery completion. -/

namespace Sys2Proof.Machine

/-! ### Leaving service (R126) -/

/-- What a segment purge does to one slot that lost frames: the pending record and the DRAINING exit are examined,
and FRAME_DROPPED is raised once, by the freeing itself when the slot is freed (R24, R115, R117, R17; log entry 13). -/
def State.lostFrames (s : State) (i : SlotId) : State :=
  let s1 := s.examine i true
  if (s1.slot i).state = .free then s1 else s1.raiseSlot i .frameDropped

/-- The slots that have frames in a segment's queue. -/
def State.queueOwners (s : State) (g : Seg) : List SlotId :=
  allSlots.filter (fun i => (s.seg g).queue.any (s.owns i))

/-- A segment purge: every frame of the queue returned, FRAME_DROPPED once on each slot that lost frames (R117). -/
def State.purgeSegment (s : State) (g : Seg) : State :=
  ((s.queueOwners g).foldl State.lostFrames
    ((s.setSeg g { s.seg g with queue := [], headLoss := 0 }).clearFrames (s.seg g).queue))

/-- The fill in progress for a segment that leaves service: orphaned, or, when it is a compound frame whose claim is
deferred, returned with FRAME_DROPPED (R103, R126 step 3). -/
def State.orphanFill (s : State) (g : Seg) : State :=
  match s.fill with
  | none => s
  | some p =>
    if p.seg = g then
      match s.port.wait with
      | some w =>
        if w.deferred ∧ w.compound then
          (({ s with port := { s.port with wait := some { w with compound := false } } }).releaseFill).raiseSlot w.slot
            .frameDropped
        else s.setFrame p.frame { s.frame p.frame with orphan := true }
      | none => s.setFrame p.frame { s.frame p.frame with orphan := true }
    else s

/-- DISCOVERY_ABORTED, when a cursor is present (R126 step 5, R153). -/
def State.abortDiscovery (s : State) (g : Seg) : State :=
  if (s.seg g).cursor.isSome then s.raiseSeg g .discoveryAborted else s

/-- The effects of leaving service on entry to FAULTED or DISABLED, in the order of R126. -/
def State.leaveService (s : State) (g : Seg) (into : SegState) : State :=
  let s1 := s.setSeg g { s.seg g with state := into, down := none, busFree := none, low := none }
  let s2 := (((s1.abortWaiting (fun t => t.seg = g)).purgeSegment g).orphanFill g).abortDiscovery g
  s2.setSeg g { s2.seg g with claim := none, fair := 0, cursor := none, presence := Presence.cleared, attempt := 0,
                              pulses := 0 }

/-! ### Installing a configuration (R124, R125, R127) -/

/-- A segment enabled: EXTERNAL, where it waits for the bus-free time, with the identification count 0. The timer runs
unless a transaction left by SOFT_RESET ALL is still on the lines (R125, R128, R154; log entries 4 and 10). -/
def Segment.enabled (x : Segment) : Segment :=
  { x with state := .external, idCount := 0, low := none, busFree := if x.down.isNone then some 0 else none }

/-- A configuration installed, in DISABLED, IDLE or FAULTED: it becomes the active one, no next one is held, and a
change of enable takes the segment into or out of service. -/
def State.install (s : State) (g : Seg) (c : SegConfig) : State :=
  let s1 := s.setSeg g { s.seg g with cfg := c, next := none }
  if (s.seg g).state = .disabled then
    if c.enable then s1.setSeg g (s1.seg g).enabled else s1
  else if c.enable then s1
  else s1.leaveService g .disabled

/-- A held next configuration, if there is one, installed (R124). -/
def State.installNext (s : State) (g : Seg) : State :=
  match (s.seg g).next with
  | some c => s.install g c
  | none => s

/-- The segment in IDLE: no transaction on its lines, both lines high and both timers stopped (R128, R131, R135). -/
def State.freeLines (s : State) (g : Seg) : State :=
  s.setSeg g { s.seg g with state := .idle, down := none, busFree := none, low := none }

/-- Entry to IDLE: a held configuration is installed, then the arbiter runs (R124, R128, R131). -/
def State.enterIdle (s : State) (g : Seg) : State := ((s.freeLines g).installNext g).arbitrate g

/-! ### Recovery (R136 to R139) -/

/-- The segment in RECOVERING at attempt 1 with no pulse given; the low-limit timer bounds the first pulse (R136,
R137). What SOFT_RESET ALL left on the lines of a segment that was enabled again before its STOP is dropped at once,
without that STOP: the manual does not say what becomes of it, and this is the model's choice (R144; log entry 10). -/
def State.beginRecovery (s : State) (g : Seg) : State :=
  s.setSeg g { s.seg g with state := .recovering, down := none, attempt := 1, pulses := 0, busFree := none
                            low := some 0 }

/-- A waiting routed claim is withdrawn when its segment enters RECOVERING (R80, R136). -/
def State.withdrawAt (s : State) (g : Seg) : State := s.abortWaiting (fun t => t.seg = g)

/-- Recovery fails: the segment leaves service into FAULTED, SEGMENT_FAULTED is raised, and a held configuration is
installed (R139). -/
def State.failRecovery (s : State) (g : Seg) : State :=
  ((s.leaveService g .faulted).raiseSeg g .segmentFaulted).installNext g

/-- Recovery succeeds: RECOVERED, and the segment enters EXTERNAL, where it waits for the bus-free time (R138). -/
def State.succeedRecovery (s : State) (g : Seg) : State :=
  (s.setSeg g { s.seg g with state := .external, attempt := 0, pulses := 0, busFree := some 0, low := none }).raiseSeg g
    .recovered

/-! ### Identification and discovery (R152, R157 to R159) -/

/-- The result of an identify read, from what it received (R157). -/
def State.identifyResult (s : State) (g : Seg) (answer : Option Bool) (data : Option Byte) : State :=
  match answer, data with
  | some true, some b =>
    let a : Addr7 := b.extractLsb' 1 7
    match s.reverse g a with
    | some i => s.raiseSlot i .targetAlert
    | none => ({ s with att := { s.att with unrouted := s.att.unrouted.set g (some a) } }).raiseSeg g .unroutedAlert
  | some false, _ => s.raiseSeg g .alertUnanswered
  | _, _ => s

/-- The end of an identify read that counts: its result, the identification count one higher, and ALERT_STUCK when it
becomes 4 with the alert line low (R157, R158, R159). -/
def State.endIdentify (s : State) (g : Seg) (answer : Option Bool) (data : Option Byte) : State :=
  let s1 := s.identifyResult g answer data
  let s2 := s1.setSeg g { s1.seg g with idCount := (s1.seg g).idCount + 1 }
  if (s2.seg g).idCount = Config.identifyLimit ∧ (s2.seg g).alertLow then s2.raiseSeg g .alertStuck else s2

/-- Auto-revive of one slot at the completion of its segment's discovery (R22, R152). -/
def State.reviveSlot (g : Seg) (s : State) (i : SlotId) : State :=
  let x := s.slot i
  if x.state = .quarantined ∧ x.cur.any (fun r => r.seg = g ∧ r.autoRevive ∧ (s.seg g).presenceOf r.target = .present)
  then (s.setSlot i { x with state := .live, faults := 0 }).raiseSlot i .revived
  else s

/-- Discovery completes: the cursor removed, DISCOVERY_DONE, and the quarantined slots examined (R152). -/
def State.completeDiscovery (s : State) (g : Seg) : State :=
  allSlots.foldl (State.reviveSlot g)
    ((s.setSeg g { s.seg g with cursor := none, fair := 0 }).raiseSeg g .discoveryDone)

/-- The cursor after the acknowledge bit of its probe was read: the next address, or completion after 77h (R150). -/
def State.advanceCursor (s : State) (g : Seg) : State :=
  match (s.seg g).cursor with
  | none => s
  | some c =>
    if c = Config.lastTarget then s.completeDiscovery g
    else s.setSeg g { s.seg g with cursor := some (c + 1) }

/-! ### The end of a transaction of the part (R131) -/

/-- Whether a delivery that ends with this outcome raises FRAME_DROPPED (R112). -/
def deliveryDrops (k : OutcomeKind) (allAcked : Bool) : Bool :=
  match k with
  | .arbLost => true
  | .aborted => !allAcked
  | _ => false

/-- What the owner of a transaction does when the part's STOP has been sent: a routed transaction or a delivery
reports the outcome it has taken, an identify read takes its result, and a detached one reports nothing (R18, R26,
R86, R112, R158). -/
def State.finishWork (s : State) (g : Seg) (d : Down) : State :=
  if d.detached then s
  else match d.work with
    | .routed _ => s.reportTxn ((s.txn.map Txn.outcome).getD .aborted)
    | .delivery f k acked => s.endDelivery g f (k.getD .complete) (deliveryDrops (k.getD .complete) acked)
    | .probe _ => s
    | .identify a b => s.endIdentify g a b

/-- The transaction of the part gone from the segment, whose state stays as it is for the moment. -/
def State.dropDown (s : State) (g : Seg) : State := s.setSeg g { s.seg g with down := none }

end Sys2Proof.Machine
end

