-- ==== Sys2Proof/Machine/PortOps.lean ====
section
/-! DEFINITION. The upstream port's operations: filling and closing a frame, the decision of an address, the held
phase, and abandonment. -/

namespace Sys2Proof.Machine

/-! ### Stretching (R53, R70) -/

/-- Whether the upstream-low timer can run: in every port state except IDLE and NOT_ADDRESSED, while the part does not
itself hold SCL low (R73). -/
def Port.lowTimerRuns (p : Port) : Bool := p.state != .idle && p.state != .notAddressed && p.stretch.isNone

/-- The port at a falling edge of SCL, or at the release that ends a stretch: where it can run, the upstream-low timer
starts from 0 (R73; log entry 4). -/
def Port.sclFalls (p : Port) : Port := { p with low := if p.lowTimerRuns then some 0 else none }

/-- A stretch begins: the timer starts from 0 against the hold limit of the device configuration, and the upstream-low
timer stops (R70, R73). -/
def State.beginStretch (s : State) : State :=
  { s with port := { s.port with stretch := some { elapsed := 0, limit := s.config.hold }, low := none } }

/-- An answer on upstream SDA that ends a stretch, if there is one (R70, R73). -/
def State.endStretch (s : State) (answer : UpOut) : State :=
  { s with port := Port.sclFalls { s.port with stretch := none, out := answer } }

/-! ### Posted fills (R100, R105, R106) -/

/-- A reservation for a slot on a segment: the lowest free frame, when the pool has one, the fill position is empty
and the queue with its reservation is below 8 (R100). -/
def State.reservation (s : State) (g : Seg) : Option FrameId :=
  if s.fill.isNone ∧ (s.seg g).queue.length + s.reserved g < Config.queueSize then s.lowestFree else none

/-- The fill limit of a record: the max write length, one more with a check byte (R102). -/
def RouteRecord.fillLimit (r : RouteRecord) : Nat := if r.check = .off then r.maxLen else r.maxLen + 1

/-- Test 2 of a close, and step 2 of R90: without a check mode the bytes pass as they are; else the last byte must be
the CRC over the key's write address bytes and the bytes before it, and it is removed (R105, R106). The second part
of the answer is the verified mark. -/
def RouteRecord.verifyBytes (r : RouteRecord) (bytes : List Byte) : Option (List Byte × Bool) :=
  if r.check = .off then some (bytes, false)
  else match bytes.getLast? with
    | none => none
    | some c => if crc8 (r.key.writeBytes ++ bytes.dropLast) = c then some (bytes.dropLast, true) else none

/-- Whether the route table lets a slot queue a closed frame (R23). -/
def Slot.mayQueue (x : Slot) : Bool := (x.state = .live || x.state = .held) && x.pend.isNone

/-- A close that returns the frame, with the flag that reports the loss (R105). -/
def State.rejectFill (s : State) (i : SlotId) (f : SlotFlag) : State := s.releaseFill.raiseSlot i f

/-- The frame of the fill position appended to its segment's queue, and the arbiter's run (R107, R130). -/
def State.queueFill (s : State) (p : Fill) : State :=
  (({ s with fill := none }).setSeg p.seg
    { s.seg p.seg with queue := (s.seg p.seg).queue ++ [p.frame] }).arbitrate p.seg

/-- The close of a fill: the tests of length, check, segment and slot in order, then the queue (R105). -/
def State.closeFill (s : State) : State :=
  match s.fill with
  | none => s
  | some p =>
    let x := s.frame p.frame
    match x.owner with
    | none => s.releaseFill
    | some i =>
      if x.overlong then s.rejectFill i .lengthExceeded
      else match (s.slot i).cur.bind (fun r => r.verifyBytes x.bytes) with
        | none => if (s.slot i).cur.isNone then s.rejectFill i .frameDropped else s.rejectFill i .checkFail
        | some (bytes, verified) =>
          if x.orphan ∨ (s.slot i).mayQueue = false then s.rejectFill i .frameDropped
          else (s.setFrame p.frame { x with bytes := bytes, verified := verified }).queueFill p

/-! ### The held phase (R69) -/

/-- The held phase ends as at STOP: the fill is closed, or the downstream transaction ends with its provisional
outcome (R69, R94). -/
def State.endHeld (s : State) : State :=
  match s.port.held with
  | none => s
  | some h =>
    let s1 := { s with port := { s.port with held := none } }
    match h.kind with
    | .fill => s1.closeFill
    | .ct | .read => s1.endUpstream Txn.takeNormal

/-- The port withholds an address acknowledge: it stretches, and places the claim or defers it while an outcome is
still owed (R62, R63). -/
def State.withhold (s : State) (w : Wait) : State :=
  let port := { Port.idle with state := .address, ten := s.port.ten, repeated := s.port.repeated,
                               wait := some { w with deferred := s.txn.isSome } }
  let s1 := ({ s with port := port }).beginStretch
  if s.txn.isSome then s1 else s1.placeClaim w

/-- The 10-bit memory after an ACK: set when the byte was a 10-bit second byte (R65). -/
def tenAfterAck (old : Option TenMemory) (ten : Option (BitVec 2)) (i : SlotId) : Option TenMemory :=
  match ten with
  | some xx => some { slot := i, upper := xx }
  | none => old

/-- A new routed phase on a slot: checks 1 to 3, then the reservation of a posted write or the withheld acknowledge
of a read or cut-through write (R61, R62). -/
def State.decideRouted (s : State) (i : SlotId) (read : Bool) (ten : Option (BitVec 2)) : State :=
  match s.addressCheck i read with
  | some f => (s.raiseSlot i f).nackUp ten.isSome
  | none =>
    match (s.slot i).cur with
    | none => s.nackUp ten.isSome
    | some r =>
      if read = false ∧ r.mode = .posted then
        match s.reservation r.seg with
        | none => (s.raiseSlot i .noBuffer).nackUp ten.isSome
        | some f =>
          { s.setFrame f { Frame.empty with owner := some i } with
            fill := some { frame := f, seg := r.seg }
            port := Port.sclFalls { Port.idle with state := .postedFill, hand := some i, out := .ack
                                                   ten := tenAfterAck s.port.ten ten i } }
      else s.withhold { slot := i, read := read, ten := ten, deferred := false, compound := false }

/-- A continuation of the held phase's transaction: checked again for its new direction, then a downstream repeated
START and the target address byte; a failed check ends the held phase as at STOP (R69, R89). -/
def State.continueHeld (s : State) (i : SlotId) (read : Bool) (ten : Option (BitVec 2)) : State :=
  match s.addressCheck i read with
  | some f => ((s.raiseSlot i f).endHeld).nackUp ten.isSome
  | none =>
    match s.txn with
    | none => s.nackUp ten.isSome
    | some t =>
      let port := { Port.idle with state := .address, hand := some i, ten := s.port.ten, repeated := s.port.repeated,
                                   wait := some { slot := i, read := read, ten := ten, deferred := false, compound := false } }
      let go := fun (d : Down) => if d.pos = .boundary then d.restart read else { d with after := .restart read }
      (({ s with port := port, txn := some { t with stage := .address } }).mapDown t.seg go).beginStretch

/-- A read address on the slot of a held fill: checks, verification, then the claim with the compound frame (R90). -/
def State.compoundRead (s : State) (i : SlotId) : State :=
  match s.addressCheck i true with
  | some f => ((s.raiseSlot i f).endHeld).nackUp false
  | none =>
    match s.fill, (s.slot i).cur with
    | some p, some r =>
      let x := s.frame p.frame
      if x.overlong then (s.rejectFill i .lengthExceeded).nackUp false
      else match r.verifyBytes x.bytes with
        | none => (s.rejectFill i .checkFail).nackUp false
        | some (bytes, verified) =>
          (s.setFrame p.frame { x with bytes := bytes, verified := verified }).withhold
            { slot := i, read := true, ten := none, deferred := false, compound := true }
    | _, _ => s.nackUp false

/-- The table of R69: a new address that names the slot of the held phase. -/
def State.settleSame (s : State) (h : Held) (read : Bool) (ten : Option (BitVec 2)) : State :=
  match h.kind, read with
  | .fill, true => s.compoundRead h.slot
  | .fill, false => s.endHeld.decideRouted h.slot false ten
  | .read, false =>
    if (s.slot h.slot).cur.any (fun r => r.mode = .posted) then s.endHeld.decideRouted h.slot false ten
    else s.continueHeld h.slot false ten
  | _, _ => s.continueHeld h.slot read ten

/-- An address that names a slot: a continuation of the held phase when the slot is its own, else a new phase after
the held phase has ended as at STOP (R61, R69). -/
def State.decideSlot (s : State) (i : SlotId) (read : Bool) (ten : Option (BitVec 2)) : State :=
  match s.port.held with
  | some h => if h.slot = i then s.settleSame h read ten else s.endHeld.decideRouted i read ten
  | none => s.decideRouted i read ten

/-! ### The address decision (R57, R58, R61, R64 to R67) -/

/-- An address byte that is refused without a flag: the held phase ends as at STOP, NACK (R57, R61, R69). -/
def State.refuseAddress (s : State) (dropTen : Bool) : State := s.endHeld.nackUp dropTen

/-- The management address: ACK, and MGMT_WRITE with an empty assembly buffer or MGMT_READ with the response from
its first byte (R58, R60). -/
def State.acceptMgmt (s : State) (read : Bool) : State :=
  let s1 := s.endHeld
  { s1 with port := Port.sclFalls { Port.idle with state := if read then .mgmtRead else .mgmtWrite, out := .ack
                                                   send := if read then s1.resp.bytes s1.mgmtAddr else [] } }

/-- The 10-bit memory cleared (R67). -/
def State.clearTen (s : State) : State := { s with port := { s.port with ten := none } }

/-- The memory cleared by a 10-bit first byte whose upper bits differ from its own (R67). -/
def State.clearTenUnless (s : State) (upper : BitVec 2) : State :=
  if s.port.ten.any (fun m => m.upper ≠ upper) then s.clearTen else s

/-- A 10-bit first byte with W: ACK into TEN_FIRST when some TEN key has its upper bits, else NACK, which decides the
address of a held phase as another one (R64, R69). -/
def State.decideTenFirst (s : State) (upper : BitVec 2) : State :=
  let s1 := s.clearTenUnless upper
  if s1.tenQuery upper then
    { s1 with port := Port.sclFalls { Port.idle with state := .tenFirst, held := s1.port.held, ten := s1.port.ten
                                                     upper := upper, repeated := s1.port.repeated, out := .ack } }
  else s1.refuseAddress false

/-- A 10-bit second byte: the TEN key is looked up and proceeds by the slot's access, or by R69 when it names the
slot of the held phase (R65). -/
def State.decideTenSecond (s : State) (lower : Byte) : State :=
  let upper := s.port.upper
  match s.forward (tenKey upper lower) with
  | none => s.refuseAddress true
  | some i =>
    if s.port.held.any (fun h => h.slot = i) then s.decideSlot i false (some upper)
    else if (s.slot i).cur.any (fun r => r.access = .readOnly) then
      let s1 := s.endHeld
      match s1.addressCheck i true with
      | some f => (s1.raiseSlot i f).nackUp true
      | none => { s1 with port := { Port.idle with state := .notAddressed, ten := some { slot := i, upper := upper }
                                                   out := .ack } }
    else s.decideSlot i false (some upper)

/-- A 10-bit read form: accepted on the memory's slot after a repeated START when the memory matches (R66, R67). -/
def State.decideTenRead (s : State) (upper : BitVec 2) : State :=
  let s1 := s.clearTenUnless upper
  match s1.port.ten with
  | some m => if s1.port.repeated then s1.decideSlot m.slot true none else s1.refuseAddress false
  | none => s1.refuseAddress false

/-- The address byte decided by its address value (R57); a 7-bit form clears the 10-bit memory (R67). -/
def State.decideAddress (s : State) (a : Addr7) (read : Bool) : State :=
  if 0x78 ≤ a ∧ a ≤ 0x7B then
    if read then s.decideTenRead (a.setWidth 2) else s.decideTenFirst (a.setWidth 2)
  else if a = s.mgmtAddr then s.clearTen.acceptMgmt read
  else if a < 0x08 ∨ 0x7B < a then s.clearTen.refuseAddress false
  else match s.clearTen.forward (sevenKey a) with
    | some i => s.clearTen.decideSlot i read none
    | none => s.clearTen.refuseAddress false

/-! ### Abandonment (R74, R75) -/

/-- What abandonment does to the phase in progress or held: a routed transaction takes ABORTED and ends at the next
byte boundary; a fill's frame returns to the pool without a flag; an assembled command is discarded (R74). -/
def State.abandonPhase (s : State) : State :=
  match s.port.state, s.port.held.map Held.kind with
  | .routedCt, _ | .routedRead, _ => s.endUpstream (fun t => t.takeFinal .aborted)
  | .postedFill, _ => s.releaseFill
  | _, some .ct | _, some .read => s.endUpstream (fun t => t.takeFinal .aborted)
  | _, some .fill => s.releaseFill
  | _, _ => s

/-- The port in ADDRESS after a START or a repeated START. -/
def State.toAddress (s : State) (held : Option Held) (ten : Option TenMemory) (repeated : Bool) : State :=
  { s with port := Port.sclFalls { Port.idle with state := .address, held := held, ten := ten, repeated := repeated } }

/-- The port in IDLE. -/
def State.toIdle (s : State) : State := { s with port := .idle }

/-- A repeated START in a routed phase: the segment stays, or will stay, at a byte boundary, and the stage becomes
PAUSED; a read byte that waits for its acknowledge is given NACK (R69, R86, R88). -/
def State.pauseTxn (s : State) : State :=
  match s.txn with
  | none => s
  | some t =>
    let rest := fun (d : Down) => if d.pos = .readAck then { d with pos := .boundary } else d
    ({ s with txn := some { t with stage := .paused } }).mapDown t.seg rest

end Sys2Proof.Machine
end

