-- ==== Sys2Proof/Machine/Protocol.lean ====
section
/-! DEFINITION. Management frames: the frame checks, the token check, the start and end of a management write, and
the argument checks that commands share. The commands themselves stand with their families. -/

namespace Sys2Proof.Machine

/-! ### Frame checks (R176, R177) -/

/-- Whether the check flag of a frame's command byte is 1 (R174). -/
def frameChecked (frame : List Byte) : Bool := frame.head?.any (fun c => c.getLsbD 7)

/-- Checks 1 to 4 of R176: the status of the first that fails, or none. The check byte covers the management write
address byte and every byte before it (R177). -/
def State.frameRefusal (s : State) (frame : List Byte) (overlong : Bool) : Option Status :=
  if overlong then some .badLength
  else if frame.length < (if frameChecked frame then 3 else 2) then some .badLength
  else if frameChecked frame then
    if frame.getLast? = some (crc8 (addressByteOf s.mgmtAddr false :: frame.dropLast)) then none else some .badCheck
  else if s.config.checkRequired then some .badCheck
  else none

/-- The tag of a frame: its byte at position 1, or 00h in a frame of one byte (R176). -/
def frameTag (frame : List Byte) : Byte := frame[1]?.getD 0

/-- The command code of a frame: the lower seven bits of the command byte (R174). -/
def frameCode (frame : List Byte) : Byte := (frame.head?.getD 0) &&& 0x7F

/-- The argument bytes of a frame: the bytes after the tag, less the check byte when there is one (R176). -/
def frameArgs (frame : List Byte) : List Byte :=
  if frameChecked frame then (frame.drop 2).dropLast else frame.drop 2

/-! ### The token check (R33) -/

/-- A command that carries a token: NO_SESSION, WRONG_TOKEN, or the command with the idle timer restarted (R33). -/
def State.withToken (s : State) (tag token : Byte) (command : State → State) : State :=
  match s.session with
  | none => s.respond .noSession tag []
  | some x =>
    if x.token = token then command { s with session := some { x with elapsed := 0 } }
    else s.respond .wrongToken tag []

/-! ### Arguments that several commands take (R178, R199) -/

/-- A command on a slot: BAD_ARGUMENT naming SLOT for a slot byte above 63. -/
def State.withSlot (s : State) (tag slot : Byte) (command : SlotId → State) : State :=
  match slotOfByte slot with
  | some i => command i
  | none => s.badArgument tag .slot

/-- A command on a segment: BAD_ARGUMENT naming SEGMENT for a segment byte above 03h. -/
def State.withSeg (s : State) (tag seg : Byte) (command : Seg → State) : State :=
  match segOfByte seg with
  | some g => command g
  | none => s.badArgument tag .segment

/-! ### A management write (R59, R68) -/

/-- The port in MGMT_WRITE with a frame assembled, its last byte just ACKed, or NACKed beyond 24 bytes (R58, R59). -/
def Port.writing (frame : List Byte) : Port :=
  Port.sclFalls { Port.idle with state := .mgmtWrite, asm := frame.take Config.assemblySize
                                 overlong := Config.assemblySize < frame.length
                                 out := if Config.assemblySize < frame.length then .nack else .ack }

/-- A whole management write of a frame from an IDLE port, ended by STOP: the frame checks, then the command; the
port is IDLE afterwards (R58, R59, R68, R175; log entry 3). It cannot be sent while device reset lasts or while
another upstream transaction is open: then nothing happens (log entry 1). -/
def State.managementWrite (s : State) (frame : List Byte) (command : State → State) : State :=
  if s.inReset ∨ s.port.state ≠ .idle then s
  else
    let s1 := { s with port := Port.writing frame }
    (match s.frameRefusal s1.port.asm s1.port.overlong with
      | some st => s1.respond st (frameTag s1.port.asm) []
      | none => command s1).toIdle

end Sys2Proof.Machine
end

