-- ==== Sys2Proof/Machine/AttentionCmds.lean ====
section
/-! DEFINITION. The attention commands. -/

namespace Sys2Proof.Machine

/-! ### Owners -/

/-- The flags and stamp of an owner (R161). -/
def State.owner (s : State) : OwnerRef → Owner
  | .device => s.att.device
  | .slot i => s.slotOwner i
  | .seg g => s.segOwner g

/-- The flags and stamp of an owner replaced. -/
def State.setOwner (s : State) (r : OwnerRef) (o : Owner) : State :=
  match r with
  | .device => s.setDeviceOwner o
  | .slot i => s.setSlotOwner i o
  | .seg g => s.setSegOwner g o

/-- How many flag kinds an owner has (R161). -/
def OwnerRef.flagCount : OwnerRef → Nat
  | .device => deviceFlagCount
  | .slot _ => slotFlagCount
  | .seg _ => segFlagCount

/-! ### The commands (R165 to R167) -/

/-- The set of segments with a set flag: bit 0 is A (R192). -/
def State.segmentSet (s : State) : Byte :=
  setByte [(s.segOwner .d).flags != 0, (s.segOwner .c).flags != 0, (s.segOwner .b).flags != 0,
    (s.segOwner .a).flags != 0]

/-- ATTENTION_SUMMARY: device flags and stamp, the slots and the segments with a set flag, the level of ALERT_N
(R165). -/
def cmdAttentionSummary (tag : Byte) (s : State) : State :=
  s.respond .ok tag (twoBytes s.att.device.flags ++ [s.att.device.stamp]
    ++ packSet 8 (s.att.slots.toList.map (fun o => o.flags != 0)) ++ [s.segmentSet, boolByte s.alertDrivenLow])

/-- The unrouted-alert address that ATTENTION_READ adds for a segment: the address, or FFh when absent (R166, R200). -/
def State.unroutedBytes (s : State) : OwnerRef → List Byte
  | .seg g => [match s.att.unrouted.get g with
    | some a => a.setWidth 8
    | none => 0xFF]
  | _ => []

/-- ATTENTION_READ (R166). -/
def cmdAttentionRead (tag kind number : Byte) (s : State) : State :=
  match ownerOfBytes kind number with
  | none => s.badArgument tag .owner
  | some r =>
    s.respond .ok tag (r.bytes ++ twoBytes (s.owner r).flags ++ [(s.owner r).stamp] ++ s.unroutedBytes r)

/-- ATTENTION_ACK: the owner, then the flags are checked; with the current stamp the named flags are cleared, with
another one the answer is STALE (R167). -/
def cmdAttentionAck (tag kind number stamp high low : Byte) (s : State) : State :=
  match ownerOfBytes kind number with
  | none => s.badArgument tag .owner
  | some r =>
    let named : BitVec 16 := high ++ low
    let o := s.owner r
    let cleared := o.acknowledge named
    if named >>> r.flagCount ≠ 0 then s.badArgument tag .flags
    else if stamp = o.stamp then
      (s.setOwner r cleared).respond .ok tag (r.bytes ++ [o.stamp] ++ twoBytes cleared.flags)
    else s.respond .stale tag (r.bytes ++ [o.stamp] ++ twoBytes o.flags)

/-! ### The meanings of the rows -/

/-- ATTENTION_SUMMARY. -/
def execAttentionSummary (tag : Byte) (check : Option Byte) (s : State) : Host.Outcome State Fault Refusal :=
  .next (s.managementWrite (frameBytes 0x40 tag check []) (cmdAttentionSummary tag))

/-- ATTENTION_READ. -/
def execAttentionRead (tag : Byte) (check : Option Byte) (kind number : Byte) (s : State) :
    Host.Outcome State Fault Refusal :=
  .next (s.managementWrite (frameBytes 0x41 tag check [kind, number]) (cmdAttentionRead tag kind number))

/-- ATTENTION_ACK. -/
def execAttentionAck (tag : Byte) (check : Option Byte) (kind number stamp high low : Byte) (s : State) :
    Host.Outcome State Fault Refusal :=
  .next (s.managementWrite (frameBytes 0x42 tag check [kind, number, stamp, high, low])
    (cmdAttentionAck tag kind number stamp high low))

end Sys2Proof.Machine
end

