-- ==== Sys2Proof/Machine/Device.lean ====
section
/-! DEFINITION. The device commands: identity, device configuration and the two scopes of SOFT_RESET; device reset
itself. -/

namespace Sys2Proof.Machine

/-! ### Identity and configuration (R184 to R186) -/

/-- DEVICE_IDENT: part code, revision, management address (R186). -/
def cmdDeviceIdent (tag : Byte) (s : State) : State :=
  s.respond .ok tag (Config.partCode ++ [Config.revision, s.mgmtAddr.setWidth 8])

/-- DEVICE_CONFIG_READ: the four fields as held (R184). -/
def cmdDeviceConfigRead (tag : Byte) (s : State) : State := s.respond .ok tag s.config.encode

/-- DEVICE_CONFIG_WRITE: the four fields checked in order and replaced together (R185). -/
def cmdDeviceConfigWrite (tag hold idle required m3 m2 m1 m0 : Byte) (s : State) : State :=
  match parseDeviceConfig hold idle required m3 m2 m1 m0 with
  | .error f => s.badArgument tag f
  | .ok c => ({ s with config := c }).respond .ok tag c.encode

/-! ### Soft reset (R187 to R189) -/

/-- A transaction detached from its slot, to end at the next byte boundary with STOP (R26, R143, R187). -/
def Down.detach (d : Down) : Down := { d.endAtBoundary with detached := true }

/-- What SOFT_RESET ROUTES does to a transaction of the part: a routed one and a delivery are detached, a probe and an
identify read run to their end (R143). -/
def Down.routesReset (d : Down) : Down :=
  match d.work with
  | .routed _ | .delivery _ _ _ => d.detach
  | .probe _ | .identify _ _ => d

/-- One segment at SOFT_RESET ROUTES: queue, reservation, head loss count and routed claim gone, all else kept
(R118, R143). -/
def Segment.routesReset (x : Segment) : Segment :=
  { x with queue := [], headLoss := 0, claim := none, down := x.down.map Down.routesReset }

/-- One segment at SOFT_RESET ALL: every value of R121; a transaction in progress is ended on the lines at its next
byte boundary (R144). What it meets when the segment is enabled again before that is the model's choice (log entry
10). -/
def Segment.allReset (x : Segment) : Segment := { Segment.reset x.alertLow with down := x.down.map Down.detach }

/-- Every segment changed in the same way. -/
def PerSegment.map {α β : Type} (f : α → β) (p : PerSegment α) : PerSegment β := ⟨f p.a, f p.b, f p.c, f p.d⟩

/-- The levels of the alert lines, which no reset stores (R154). -/
def State.alertLevels (s : State) : PerSegment Bool := s.segs.map Segment.alertLow

/-- The attention unit with the slot flags cleared, their stamps kept (R172 step 1). -/
def Attention.clearSlots (a : Attention) : Attention :=
  { a with slots := allSlots.foldl (fun (v : Vector Owner 64) (i : SlotId) => v.set i (v.get i).cleared) a.slots }

/-- SOFT_RESET ROUTES (R188): every slot free, the session closed, every frame returned, routed work and deliveries
detached, slot flags cleared, TABLE_CLEARED raised. -/
def cmdSoftResetRoutes (tag : Byte) (s : State) : State :=
  (({ s with slots := Vector.replicate 64 Slot.free
             session := none
             staging := []
             frames := Vector.replicate 24 Frame.empty
             fill := none
             txn := none
             port := { s.port with ten := none }
             segs := s.segs.map Segment.routesReset
             att := s.att.clearSlots }).raiseDevice .tableCleared).respond .resetDone tag [0]

/-- SOFT_RESET ALL (R189): every block at its value after device reset but for the strapped address and the
transactions that end at a byte boundary; RESET_OCCURRED raised; RESET_DONE with the tag and the scope. -/
def cmdSoftResetAll (tag : Byte) (s : State) : State :=
  (({ State.blank s.mgmtAddr s.alertLevels s.pending with segs := s.segs.map Segment.allReset }).raiseDevice
    .resetOccurred).respond .resetDone tag [1]

/-! ### Device reset (R204, R205) -/

/-- Device reset begins: all work is lost and every line released (R121, R203, R204). -/
def State.beginReset (s : State) : State :=
  { State.blank s.mgmtAddr s.alertLevels s.pending with inReset := true }

/-- Device reset ends: the straps are sampled, every block takes its reset values and RESET_OCCURRED is raised
(R170, R179, R204, R205). -/
def State.endReset (s : State) (adr1 adr0 : Bool) : State :=
  (State.blank (0x5C + (if adr1 then 2 else 0) + (if adr0 then 1 else 0)) s.alertLevels s.pending).raiseDevice
    .resetOccurred

/-! ### The meanings of the rows -/

/-- DEVICE_IDENT. -/
def execDeviceIdent (tag : Byte) (check : Option Byte) (s : State) : Host.Outcome State Fault Refusal :=
  .next (s.managementWrite (frameBytes 0x01 tag check []) (cmdDeviceIdent tag))

/-- DEVICE_CONFIG_READ. -/
def execDeviceConfigRead (tag : Byte) (check : Option Byte) (s : State) : Host.Outcome State Fault Refusal :=
  .next (s.managementWrite (frameBytes 0x02 tag check []) (cmdDeviceConfigRead tag))

/-- DEVICE_CONFIG_WRITE. -/
def execDeviceConfigWrite (tag : Byte) (check : Option Byte) (hold idle required m3 m2 m1 m0 : Byte) (s : State) :
    Host.Outcome State Fault Refusal :=
  .next (s.managementWrite (frameBytes 0x03 tag check [hold, idle, required, m3, m2, m1, m0])
    (cmdDeviceConfigWrite tag hold idle required m3 m2 m1 m0))

/-- SOFT_RESET with scope ROUTES. -/
def execSoftResetRoutes (tag : Byte) (check : Option Byte) (s : State) : Host.Outcome State Fault Refusal :=
  .next (s.managementWrite (frameBytes 0x0F tag check [0x00]) (cmdSoftResetRoutes tag))

/-- SOFT_RESET with scope ALL. -/
def execSoftResetAll (tag : Byte) (check : Option Byte) (s : State) : Host.Outcome State Fault Refusal :=
  .next (s.managementWrite (frameBytes 0x0F tag check [0x01]) (cmdSoftResetAll tag))

/-- DEVICE_RESET: device reset begins; one that begins again while it lasts changes nothing more (R204). -/
def execDeviceReset (s : State) : Host.Outcome State Fault Refusal :=
  .next (if s.inReset then s else s.beginReset)

/-- DEVICE_RESET_END: t_start has elapsed after the last release; without a device reset there is none to end (R204;
log entry 1). -/
def execDeviceResetEnd (adr1 adr0 : Bool) (s : State) : Host.Outcome State Fault Refusal :=
  .next (if s.inReset then s.endReset adr1 adr0 else s)

end Sys2Proof.Machine
end

