-- ==== Sys2Proof/Machine/Edit.lean ====
section
/-! DEFINITION. The edit session: opening, staging, the commit with its validation, closing and expiry. -/

namespace Sys2Proof.Machine

/-! ### Opening and closing (R32, R34, R35) -/

/-- The token after one more: 255 is followed by 1 (R32). -/
def nextToken (counter : Byte) : Byte := if counter = 0xFF then 1 else counter + 1

/-- The session closed, its list discarded and its timer stopped. -/
def State.closeSession (s : State) : State := { s with session := none, staging := [] }

/-- EDIT_OPEN (R32). -/
def cmdEditOpen (tag : Byte) (s : State) : State :=
  match s.session with
  | some _ => s.respond .sessionBusy tag []
  | none =>
    let token := nextToken s.tokenCounter
    ({ s with tokenCounter := token, staging := []
              session := some { token := token, limit := s.config.idle, elapsed := 0 } }).respond .ok tag
      [token, byteOf s.config.idle]

/-- EDIT_ABANDON (R35). -/
def cmdEditAbandon (tag token : Byte) (s : State) : State :=
  s.withToken tag token fun s => s.closeSession.respond .ok tag [byteOf s.staging.length]

/-- The session idle timer reaches its limit: the session closes without applying its list, and EDIT_EXPIRED is
raised (R34). -/
def State.expireSession (s : State) : State :=
  if s.session.isSome then s.closeSession.raiseDevice .editExpired else s

/-! ### The staging list (R37 to R41) -/

/-- The position of the entry for a slot, if the list holds one. -/
def stagedAt (list : List Entry) (i : SlotId) : Option Nat := list.findIdx? (fun e => e.slot = i)

/-- A checked entry placed: in place of the slot's entry, at the tail, or STAGING_FULL (R38). -/
def State.placeEntry (s : State) (tag : Byte) (e : Entry) : State :=
  match stagedAt s.staging e.slot with
  | some k =>
    ({ s with staging := s.staging.map (fun x : Entry => if x.slot = e.slot then e else x) }).respond .ok tag
      [byteOf k, byteOf s.staging.length]
  | none =>
    if s.staging.length < Config.stagingSize then
      ({ s with staging := s.staging ++ [e] }).respond .ok tag
        [byteOf s.staging.length, byteOf (s.staging.length + 1)]
    else s.respond .stagingFull tag []

/-- EDIT_STAGE: the token, the slot, then the action and its fields in the order of R37. -/
def cmdEditStage (tag token slot action : Byte) (entry : List Byte) (s : State) : State :=
  s.withToken tag token fun s => s.withSlot tag slot fun i =>
    match parseAction s.mgmtAddr action entry with
    | .error f => s.badArgument tag f
    | .ok a => s.placeEntry tag { slot := i, action := a }

/-- EDIT_UNSTAGE (R40). -/
def cmdEditUnstage (tag token slot : Byte) (s : State) : State :=
  s.withToken tag token fun s => s.withSlot tag slot fun i =>
    if (stagedAt s.staging i).isSome then
      ({ s with staging := s.staging.filter (fun e => e.slot ≠ i) }).respond .ok tag [byteOf (s.staging.length - 1)]
    else s.respond .notFound tag []

/-- EDIT_LIST (R41). -/
def cmdEditList (tag token : Byte) (s : State) : State :=
  s.withToken tag token fun s =>
    s.respond .ok tag (byteOf s.staging.length :: s.staging.flatMap (fun e => [slotByte e.slot, e.action.code]))

/-! ### Validation (R43 to R46) -/

/-- The record of a CREATE or MODIFY entry. -/
def Action.record : Action → Option RouteRecord
  | .create r _ => some r
  | .modify r _ => some r
  | .retire _ => none

/-- Whether a slot claims a key or pair: its current record does, or its pending route record (R4). -/
def Slot.claims (x : Slot) (test : RouteRecord → Bool) : Bool :=
  x.cur.any test || (match x.pend with
    | some (.modify r) => test r
    | _ => false)

/-- Why the slot of an entry does not suit its action (R43). -/
def Slot.unfit (x : Slot) (a : Action) : Option CommitReason :=
  match a with
  | .create _ _ => if x.state = .free then none else some .slotNotFree
  | .modify _ _ | .retire _ =>
    if x.state = .free then some .slotFree
    else if x.state = .draining then some .slotRetiring
    else match x.pend with
      | some (.retire _) => some .slotRetiring
      | _ => none

/-- The slot that stands against a key or pair of an entry: another slot that claims it in the table, else the first
other CREATE or MODIFY entry of the list that names it (R44, R45, R46). -/
def State.conflict (s : State) (list : List Entry) (own : SlotId) (test : RouteRecord → Bool) : Option SlotId :=
  match allSlots.find? (fun j => j ≠ own && (s.slot j).claims test) with
  | some j => some j
  | none => (list.find? (fun e => e.slot ≠ own && e.action.record.any test)).map Entry.slot

/-- The first check an entry fails, with the conflicting slot: the slot, then the key, then the pair (R43 to R46). -/
def State.entryFailure (s : State) (list : List Entry) (e : Entry) : Option (CommitReason × SlotId) :=
  match (s.slot e.slot).unfit e.action with
  | some why => some (why, e.slot)
  | none =>
    match e.action.record with
    | none => none
    | some r =>
      match s.conflict list e.slot (fun x => x.key = r.key) with
      | some j => some (.keyInUse, j)
      | none => (s.conflict list e.slot (fun x => x.seg = r.seg ∧ x.target = r.target)).map (fun j => (.targetInUse, j))

/-- The first entry of the list that fails, with its position (R46). -/
def State.firstFailure (s : State) (list : List Entry) : Nat → List Entry → Option (Nat × Entry × CommitReason × SlotId)
  | _, [] => none
  | k, e :: rest =>
    match s.entryFailure list e with
    | some (why, j) => some (k, e, why, j)
    | none => s.firstFailure list (k + 1) rest

/-! ### Application (R10, R12 to R15, R47) -/

/-- A CREATE applied to a FREE slot: the record installed, LIVE or HELD, counters 0, flags cleared (R12, R163). -/
def State.applyCreate (s : State) (i : SlotId) (r : RouteRecord) (startHeld : Bool) : State :=
  (s.setSlot i { state := if startHeld then .held else .live, cur := some r, pend := none, faults := 0
                 completed := 0 }).clearSlotFlags i

/-- A pending record placed, replacing any other (R10). -/
def State.placePending (s : State) (i : SlotId) (p : Pending) : State :=
  s.setSlot i { s.slot i with pend := some p }

/-- Whether an entry is applied at once to its slot as it stands, and not placed pending (R9, R47). -/
def State.appliesAtOnce (s : State) (e : Entry) : Bool :=
  match e.action with
  | .create _ _ => true
  | .modify _ _ => s.marker e.slot = .none && s.queued e.slot = 0
  | .retire _ => s.marker e.slot = .none

/-- One entry applied (R47). -/
def State.applyEntry (s : State) (e : Entry) : State :=
  match e.action with
  | .create r h => s.applyCreate e.slot r h
  | .modify r _ => if s.appliesAtOnce e then s.applyModify e.slot r else s.placePending e.slot (.modify r)
  | .retire c =>
    if s.appliesAtOnce e then (s.setSlot e.slot { s.slot e.slot with pend := none }).applyRetire e.slot c false
    else s.placePending e.slot (.retire c)

/-- The entries of a list applied in order, counting those applied at once (R47). -/
def State.applyEntries (s : State) : List Entry → State × Nat
  | [] => (s, 0)
  | e :: rest =>
    let n := if s.appliesAtOnce e then 1 else 0
    let (t, m) := (s.applyEntry e).applyEntries rest
    (t, n + m)

/-- EDIT_COMMIT: the list validated whole, then applied whole and the session closed, or VALIDATION_FAILED with the
session as it was (R42, R46, R47). -/
def cmdEditCommit (tag token : Byte) (s : State) : State :=
  s.withToken tag token fun s =>
    match s.firstFailure s.staging 0 s.staging with
    | some (k, e, why, j) => s.respond .validationFailed tag [byteOf k, why.code, slotByte e.slot, slotByte j]
    | none =>
      let (t, n) := s.applyEntries s.staging
      t.closeSession.respond .ok tag [byteOf n, byteOf (s.staging.length - n)]

/-! ### The meanings of the rows -/

/-- EDIT_EXPIRY: the idle timer of an open session reaches its limit (R34). -/
def execEditExpiry (s : State) : Host.Outcome State Fault Refusal :=
  .next (if s.inReset then s else s.expireSession)

/-- EDIT_OPEN. -/
def execEditOpen (tag : Byte) (check : Option Byte) (s : State) : Host.Outcome State Fault Refusal :=
  .next (s.managementWrite (frameBytes 0x10 tag check []) (cmdEditOpen tag))

/-- EDIT_STAGE; a frame whose length does not suit its action is BAD_LENGTH before the token is examined (R37,
R176). -/
def execEditStage (tag : Byte) (check : Option Byte) (token slot action : Byte) (entry : List Byte) (s : State) :
    Host.Outcome State Fault Refusal :=
  .next (s.managementWrite (frameBytes 0x11 tag check (token :: slot :: action :: entry)) fun s =>
    if stageEntryLength action entry.length then cmdEditStage tag token slot action entry s
    else s.respond .badLength tag [])

/-- EDIT_UNSTAGE. -/
def execEditUnstage (tag : Byte) (check : Option Byte) (token slot : Byte) (s : State) :
    Host.Outcome State Fault Refusal :=
  .next (s.managementWrite (frameBytes 0x12 tag check [token, slot]) (cmdEditUnstage tag token slot))

/-- EDIT_LIST. -/
def execEditList (tag : Byte) (check : Option Byte) (token : Byte) (s : State) : Host.Outcome State Fault Refusal :=
  .next (s.managementWrite (frameBytes 0x13 tag check [token]) (cmdEditList tag token))

/-- EDIT_COMMIT. -/
def execEditCommit (tag : Byte) (check : Option Byte) (token : Byte) (s : State) : Host.Outcome State Fault Refusal :=
  .next (s.managementWrite (frameBytes 0x14 tag check [token]) (cmdEditCommit tag token))

/-- EDIT_ABANDON. -/
def execEditAbandon (tag : Byte) (check : Option Byte) (token : Byte) (s : State) : Host.Outcome State Fault Refusal :=
  .next (s.managementWrite (frameBytes 0x15 tag check [token]) (cmdEditAbandon tag token))

end Sys2Proof.Machine
end

