-- ==== Sys2Proof/Machine/Routes.lean ====
section
/-! DEFINITION. The operational route commands and the route queries. -/

namespace Sys2Proof.Machine

/-! ### Holding, resuming and releasing (R49 to R51) -/

/-- The answer of an operational route command: the slot and its state (R195). -/
def State.respondSlot (s : State) (status : Status) (tag : Byte) (i : SlotId) : State :=
  s.respond status tag [slotByte i, (s.slot i).state.code]

/-- A slot taken from one state to another, or WRONG_STATE with its state; `faults` gives the new fault count. -/
def State.moveSlot (s : State) (tag : Byte) (i : SlotId) (old new : SlotState) (faults : Nat) : State :=
  if (s.slot i).state = old then
    (s.setSlot i { s.slot i with state := new, faults := faults }).respondSlot .ok tag i
  else s.respondSlot .wrongState tag i

/-- ROUTE_HOLD: a LIVE slot becomes HELD (R49). -/
def cmdRouteHold (tag slot : Byte) (s : State) : State :=
  s.withSlot tag slot fun i => s.moveSlot tag i .live .held (s.slot i).faults

/-- ROUTE_RESUME: a HELD slot becomes LIVE (R50). -/
def cmdRouteResume (tag slot : Byte) (s : State) : State :=
  s.withSlot tag slot fun i => s.moveSlot tag i .held .live (s.slot i).faults

/-- ROUTE_RELEASE: a QUARANTINED slot becomes LIVE with consecutive faults 0 (R51). -/
def cmdRouteRelease (tag slot : Byte) (s : State) : State :=
  s.withSlot tag slot fun i => s.moveSlot tag i .quarantined .live 0

/-! ### Queries (R27 to R29) -/

/-- The parts byte of ROUTE_READ (R200). -/
def Slot.partsByte (x : Slot) : Byte :=
  boolByte x.cur.isSome ||| (match x.pend with
    | none => 0
    | some (.modify _) => 2
    | some (.retire _) => 6)

/-- The records of ROUTE_READ: the current one, then the pending part (R195, R200). -/
def Slot.recordBytes (x : Slot) : List Byte :=
  (match x.cur with
    | none => []
    | some r => r.encode) ++ (match x.pend with
    | none => []
    | some (.modify r) => r.encode
    | some (.retire c) => [c.code])

/-- The data of ROUTE_READ (R27, R195). -/
def State.routeData (s : State) (i : SlotId) : List Byte :=
  let x := s.slot i
  [slotByte i, x.state.code, (s.marker i).code, byteOf (s.queued i), byteOf x.faults] ++ twoBytes x.completed
    ++ twoBytes (s.slotOwner i).flags ++ [(s.slotOwner i).stamp, x.partsByte] ++ x.recordBytes

/-- ROUTE_READ (R27). -/
def cmdRouteRead (tag slot : Byte) (s : State) : State :=
  s.withSlot tag slot fun i => s.respond .ok tag (s.routeData i)

/-- The answer to a lookup: the slot found with its state, or NOT_FOUND (R28, R29). -/
def State.respondFound (s : State) (tag : Byte) (found : Option SlotId) : State :=
  match found with
  | some i => s.respondSlot .ok tag i
  | none => s.respond .notFound tag []

/-- The key of ROUTE_FIND_VIRTUAL, or the field refused: FORM before VIRTUAL (R28, R195, R199). -/
def parseFindKey (mgmtAddr : Addr7) (formAndUpper lower : Byte) : Except Field Key :=
  let form := formAndUpper.extractLsb' 4 4
  let key : Key := { form := if form = 1 then .ten else .seven, addr := formAndUpper.setWidth 2 ++ lower }
  if 1 < form then .error .form
  else if formAndUpper.extractLsb' 2 2 ≠ 0 ∨ keyAllowed mgmtAddr key = false then .error .virtual
  else .ok key

/-- ROUTE_FIND_VIRTUAL: a forward lookup (R28). -/
def cmdRouteFindVirtual (tag formAndUpper lower : Byte) (s : State) : State :=
  match parseFindKey s.mgmtAddr formAndUpper lower with
  | .error f => s.badArgument tag f
  | .ok k => s.respondFound tag (s.forward k)

/-- ROUTE_FIND_TARGET: a reverse lookup (R29); the segment is checked before the target (R178). -/
def cmdRouteFindTarget (tag segment target : Byte) (s : State) : State :=
  s.withSeg tag segment fun g =>
    if target.getLsbD 7 ∨ isTarget (target.setWidth 7) = false then s.badArgument tag .target
    else s.respondFound tag (s.reverse g (target.setWidth 7))

/-! ### The meanings of the rows -/

/-- ROUTE_HOLD. -/
def execRouteHold (tag : Byte) (check : Option Byte) (slot : Byte) (s : State) : Host.Outcome State Fault Refusal :=
  .next (s.managementWrite (frameBytes 0x18 tag check [slot]) (cmdRouteHold tag slot))

/-- ROUTE_RESUME. -/
def execRouteResume (tag : Byte) (check : Option Byte) (slot : Byte) (s : State) :
    Host.Outcome State Fault Refusal :=
  .next (s.managementWrite (frameBytes 0x19 tag check [slot]) (cmdRouteResume tag slot))

/-- ROUTE_RELEASE. -/
def execRouteRelease (tag : Byte) (check : Option Byte) (slot : Byte) (s : State) :
    Host.Outcome State Fault Refusal :=
  .next (s.managementWrite (frameBytes 0x1A tag check [slot]) (cmdRouteRelease tag slot))

/-- ROUTE_READ. -/
def execRouteRead (tag : Byte) (check : Option Byte) (slot : Byte) (s : State) : Host.Outcome State Fault Refusal :=
  .next (s.managementWrite (frameBytes 0x20 tag check [slot]) (cmdRouteRead tag slot))

/-- ROUTE_FIND_VIRTUAL. -/
def execRouteFindVirtual (tag : Byte) (check : Option Byte) (formAndUpper lower : Byte) (s : State) :
    Host.Outcome State Fault Refusal :=
  .next (s.managementWrite (frameBytes 0x21 tag check [formAndUpper, lower])
    (cmdRouteFindVirtual tag formAndUpper lower))

/-- ROUTE_FIND_TARGET. -/
def execRouteFindTarget (tag : Byte) (check : Option Byte) (segment target : Byte) (s : State) :
    Host.Outcome State Fault Refusal :=
  .next (s.managementWrite (frameBytes 0x22 tag check [segment, target]) (cmdRouteFindTarget tag segment target))

end Sys2Proof.Machine
end

