-- ==== Sys2Proof/Machine/SegmentCmds.lean ====
section
/-! DEFINITION. The segment commands: configuration, clear, status, discovery and the presence map. -/

namespace Sys2Proof.Machine

/-! ### SEGMENT_CONFIG (R123, R201) -/

/-- Whether a configuration is installed at once in this state; otherwise it is held (R123, R124). -/
def SegState.installsAtOnce : SegState → Bool
  | .disabled | .idle | .faulted => true
  | .external | .owned | .recovering => false

/-- The answer of SEGMENT_CONFIG: segment, config mark, and the state as it stands after the execution (R201). -/
def State.respondConfig (s : State) (tag : Byte) (g : Seg) (mark : Byte) : State :=
  s.respond .ok tag [segByte g, mark, (s.seg g).state.code]

/-- SEGMENT_CONFIG: the fields checked in order, then installed at once with the arbiter's run of an IDLE segment
(R130, R155), or held in place of any configuration already held. -/
def cmdSegmentConfig (tag segment enable speed lowLimit retry alert : Byte) (s : State) : State :=
  s.withSeg tag segment fun g =>
    match parseSegConfig enable speed lowLimit retry alert with
    | .error f => s.badArgument tag f
    | .ok c =>
      if (s.seg g).state.installsAtOnce then ((s.install g c).arbitrate g).respondConfig tag g 0
      else (s.setSeg g { s.seg g with next := some c }).respondConfig tag g 1

/-! ### SEGMENT_CLEAR (R141) -/

/-- What SEGMENT_CLEAR does to a transaction of the part: it ends at the next byte boundary and recovery follows; a
delivery takes ABORTED (R112, R132, R141). -/
def Down.toClear (d : Down) : Down :=
  { d.endAtBoundary with
    clear := true
    work := match d.work with
      | .delivery f _ acked => .delivery f (some .aborted) acked
      | w => w }

/-- What SEGMENT_CLEAR does to the routed transaction of a segment: ABORTED in place of a provisional outcome
(R93, R94). -/
def State.clearTail (s : State) (g : Seg) : State :=
  match s.txn with
  | some t => if t.seg = g ∧ t.stage = .tail then { s with txn := some (t.takeFinal .aborted) } else s
  | none => s

/-- SEGMENT_CLEAR. -/
def cmdSegmentClear (tag segment : Byte) (s : State) : State :=
  s.withSeg tag segment fun g =>
    match (s.seg g).state with
    | .idle | .external => ((s.beginRecovery g).withdrawAt g).respond .accepted tag [segByte g]
    | .faulted =>
      ((s.setSeg g { s.seg g with idCount := 0 }).beginRecovery g).respond .accepted tag [segByte g]
    | .owned =>
      ((s.mapDown g Down.toClear).clearTail g).respond .accepted tag [segByte g]
    | .recovering | .disabled => s.respond .wrongState tag [segByte g, (s.seg g).state.code]

/-! ### SEGMENT_STATUS (R142) -/

/-- The sub-kind byte: the kind of the transaction in OWNED, 0 in every other state (R193, R200). -/
def Segment.kindByte (x : Segment) : Byte :=
  if x.state = .owned then (match x.down with
    | some d => d.work.code
    | none => 0)
  else 0

/-- The routed claim byte: presence in bit 7, the loss count in bits 1 and 0 (R195). -/
def Segment.claimByte (x : Segment) : Byte :=
  match x.claim with
  | some c => 0x80 ||| (byteOf c.loss &&& 3)
  | none => 0

/-- The data of SEGMENT_STATUS (R142, R195, R200). -/
def State.statusData (s : State) (g : Seg) : List Byte :=
  let x := s.seg g
  [segByte g, x.state.code, x.kindByte, byteOf x.queue.length, byteOf (s.reserved g), byteOf x.headLoss, x.claimByte,
    boolByte x.identifyClaim ||| (boolByte x.probeClaim <<< 1), byteOf x.fair, byteOf x.attempt,
    (x.cursor.getD 0).setWidth 8] ++ x.cfg.encode ++ (match x.next with
    | none => [0]
    | some c => 1 :: c.encode)

/-- SEGMENT_STATUS. -/
def cmdSegmentStatus (tag segment : Byte) (s : State) : State :=
  s.withSeg tag segment fun g => s.respond .ok tag (s.statusData g)

/-! ### Discovery (R149, R153) -/

/-- SEGMENT_DISCOVER: BUSY while a cursor is present; else the cursor at 08h in a segment in service (R149). -/
def cmdSegmentDiscover (tag segment : Byte) (s : State) : State :=
  s.withSeg tag segment fun g =>
    match (s.seg g).cursor with
    | some c => s.respond .busy tag [segByte g, c.setWidth 8]
    | none =>
      if (s.seg g).state.inService then
        ((s.setSeg g { s.seg g with cursor := some Config.firstTarget, fair := 0 }).arbitrate g).respond .accepted tag
          [segByte g]
      else s.respond .wrongState tag [segByte g, (s.seg g).state.code]

/-- A probe whose sweep was cancelled: it runs to its end and advances no cursor (R153). -/
def Down.cancelSweep (d : Down) : Down :=
  match d.work with
  | .probe _ => { d with work := .probe false }
  | _ => d

/-- DISCOVER_CANCEL: the cursor removed with DISCOVERY_ABORTED, in any state (R153). -/
def cmdDiscoverCancel (tag segment : Byte) (s : State) : State :=
  s.withSeg tag segment fun g =>
    match (s.seg g).cursor with
    | none => s.respond .wrongState tag [segByte g, (s.seg g).state.code]
    | some c =>
      ((s.setSeg g { s.seg g with cursor := none, fair := 0, down := (s.seg g).down.map Down.cancelSweep }).raiseSeg g
        .discoveryAborted).respond .ok tag [segByte g, c.setWidth 8]

/-! ### PRESENCE_READ (R148) -/

/-- The set of addresses whose entry has a value, as 14 bytes (R192). -/
def Segment.presenceSet (x : Segment) (v : Presence) : List Byte :=
  packSet 14 (x.presence.toList.map (fun p => decide (p = v)))

/-- PRESENCE_READ. -/
def cmdPresenceRead (tag segment : Byte) (s : State) : State :=
  s.withSeg tag segment fun g =>
    s.respond .ok tag (segByte g :: ((s.seg g).presenceSet .present ++ (s.seg g).presenceSet .absent))

/-! ### The meanings of the rows -/

/-- SEGMENT_CONFIG. -/
def execSegmentConfig (tag : Byte) (check : Option Byte) (segment enable speed lowLimit retry alert : Byte)
    (s : State) : Host.Outcome State Fault Refusal :=
  .next (s.managementWrite (frameBytes 0x30 tag check [segment, enable, speed, lowLimit, retry, alert])
    (cmdSegmentConfig tag segment enable speed lowLimit retry alert))

/-- SEGMENT_CLEAR. -/
def execSegmentClear (tag : Byte) (check : Option Byte) (segment : Byte) (s : State) :
    Host.Outcome State Fault Refusal :=
  .next (s.managementWrite (frameBytes 0x31 tag check [segment]) (cmdSegmentClear tag segment))

/-- SEGMENT_STATUS. -/
def execSegmentStatus (tag : Byte) (check : Option Byte) (segment : Byte) (s : State) :
    Host.Outcome State Fault Refusal :=
  .next (s.managementWrite (frameBytes 0x32 tag check [segment]) (cmdSegmentStatus tag segment))

/-- SEGMENT_DISCOVER. -/
def execSegmentDiscover (tag : Byte) (check : Option Byte) (segment : Byte) (s : State) :
    Host.Outcome State Fault Refusal :=
  .next (s.managementWrite (frameBytes 0x33 tag check [segment]) (cmdSegmentDiscover tag segment))

/-- DISCOVER_CANCEL. -/
def execDiscoverCancel (tag : Byte) (check : Option Byte) (segment : Byte) (s : State) :
    Host.Outcome State Fault Refusal :=
  .next (s.managementWrite (frameBytes 0x34 tag check [segment]) (cmdDiscoverCancel tag segment))

/-- PRESENCE_READ. -/
def execPresenceRead (tag : Byte) (check : Option Byte) (segment : Byte) (s : State) :
    Host.Outcome State Fault Refusal :=
  .next (s.managementWrite (frameBytes 0x35 tag check [segment]) (cmdPresenceRead tag segment))

end Sys2Proof.Machine
end

