-- ==== Sys2Proof/Machine/Commands.lean ====
section
/-! DEFINITION. The execution of an assembled management write: checks 5 and 6 of R176 by the catalogue, then the
command. -/

namespace Sys2Proof.Machine

/-- A command without argument bytes, or BAD_LENGTH (R176). -/
def State.take0 (s : State) (tag : Byte) (args : List Byte) (command : State → State) : State :=
  match args with
  | [] => command s
  | _ => s.respond .badLength tag []

/-- A command with one argument byte, or BAD_LENGTH (R176). -/
def State.take1 (s : State) (tag : Byte) (args : List Byte) (command : Byte → State → State) : State :=
  match args with
  | [a] => command a s
  | _ => s.respond .badLength tag []

/-- A command with two argument bytes, or BAD_LENGTH (R176). -/
def State.take2 (s : State) (tag : Byte) (args : List Byte) (command : Byte → Byte → State → State) : State :=
  match args with
  | [a, b] => command a b s
  | _ => s.respond .badLength tag []

/-- SOFT_RESET by its scope byte; another scope is BAD_ARGUMENT naming SCOPE (R187). -/
def cmdSoftReset (tag scope : Byte) (s : State) : State :=
  if scope = 0 then cmdSoftResetRoutes tag s
  else if scope = 1 then cmdSoftResetAll tag s
  else s.badArgument tag .scope

/-- The commands that take more than two argument bytes, or BAD_LENGTH (R176, R191). -/
def State.runLong (s : State) (code tag : Byte) (args : List Byte) : State :=
  match args with
  | [h, i, r, m3, m2, m1, m0] =>
    if code = 0x03 then cmdDeviceConfigWrite tag h i r m3 m2 m1 m0 s else s.respond .badLength tag []
  | [g, en, sp, low, retry, alert] =>
    if code = 0x30 then cmdSegmentConfig tag g en sp low retry alert s else s.respond .badLength tag []
  | [kind, number, stamp, high, low] =>
    if code = 0x42 then cmdAttentionAck tag kind number stamp high low s else s.respond .badLength tag []
  | _ => s.respond .badLength tag []

/-- EDIT_STAGE by its argument bytes; the number taken depends on the action code, the third of them (R176). -/
def State.runStage (s : State) (tag : Byte) (args : List Byte) : State :=
  match args with
  | token :: slot :: action :: entry =>
    if stageEntryLength action entry.length then cmdEditStage tag token slot action entry s
    else s.respond .badLength tag []
  | _ => s.respond .badLength tag []

/-- The command of a code on its argument bytes: BAD_COMMAND for a code outside the catalogue, BAD_LENGTH for another
number of arguments, else the command (R176, R191, R193). -/
def State.runCode (s : State) (code tag : Byte) (args : List Byte) : State :=
  if code = 0x01 then s.take0 tag args (cmdDeviceIdent tag)
  else if code = 0x02 then s.take0 tag args (cmdDeviceConfigRead tag)
  else if code = 0x03 ∨ code = 0x30 ∨ code = 0x42 then s.runLong code tag args
  else if code = 0x0F then s.take1 tag args (cmdSoftReset tag)
  else if code = 0x10 then s.take0 tag args (cmdEditOpen tag)
  else if code = 0x11 then s.runStage tag args
  else if code = 0x12 then s.take2 tag args (cmdEditUnstage tag)
  else if code = 0x13 then s.take1 tag args (cmdEditList tag)
  else if code = 0x14 then s.take1 tag args (cmdEditCommit tag)
  else if code = 0x15 then s.take1 tag args (cmdEditAbandon tag)
  else if code = 0x18 then s.take1 tag args (cmdRouteHold tag)
  else if code = 0x19 then s.take1 tag args (cmdRouteResume tag)
  else if code = 0x1A then s.take1 tag args (cmdRouteRelease tag)
  else if code = 0x20 then s.take1 tag args (cmdRouteRead tag)
  else if code = 0x21 then s.take2 tag args (cmdRouteFindVirtual tag)
  else if code = 0x22 then s.take2 tag args (cmdRouteFindTarget tag)
  else if code = 0x31 then s.take1 tag args (cmdSegmentClear tag)
  else if code = 0x32 then s.take1 tag args (cmdSegmentStatus tag)
  else if code = 0x33 then s.take1 tag args (cmdSegmentDiscover tag)
  else if code = 0x34 then s.take1 tag args (cmdDiscoverCancel tag)
  else if code = 0x35 then s.take1 tag args (cmdPresenceRead tag)
  else if code = 0x40 then s.take0 tag args (cmdAttentionSummary tag)
  else if code = 0x41 then s.take2 tag args (cmdAttentionRead tag)
  else s.respond .badCommand tag []

/-- The end of a management write at a STOP or a repeated START: the frame of the assembly buffer is executed; a write
without data bytes executes nothing (R59, R175, R176). -/
def State.runWrite (s : State) : State :=
  if s.port.asm = [] ∧ s.port.overlong = false then s
  else match s.frameRefusal s.port.asm s.port.overlong with
    | some st => s.respond st (frameTag s.port.asm) []
    | none => s.runCode (frameCode s.port.asm) (frameTag s.port.asm) (frameArgs s.port.asm)

end Sys2Proof.Machine
end

