-- ==== Sys2Proof/Machine/Upstream.lean ====
section
/-! DEFINITION. The rows of the upstream bus: conditions, address bytes, data bytes, and the two limits of the port. -/

namespace Sys2Proof.Machine

/-- An event that the part takes while it runs; while device reset lasts it recognises nothing (R203, R204). -/
def State.running (s : State) (event : State → State) : State := if s.inReset then s else event s

/-! ### Bus conditions (R53, R68, R69, R75) -/

/-- Whether a START or STOP can reach the port: not while the part holds SCL low (R53), and not in a routed read whose
first byte the master has yet to clock (R88; log entry 28). -/
def Port.open (p : Port) : Bool := p.stretch.isNone && !(p.state = .routedRead && p.firstByte)

/-- The routed phase in progress made the held phase at a repeated START (R69). -/
def State.holdPhase (s : State) (kind : HeldKind) : State :=
  s.toAddress (s.port.hand.map (fun i => { slot := i, kind := kind })) s.port.ten true

/-- A START in IDLE, or a repeated START in any other state (R53, R56, R69). A held phase whose new address was not
decided stays held (log entry 20). -/
def State.takeStart (s : State) : State :=
  match s.port.state with
  | .idle => s.toAddress none none false
  | .mgmtWrite =>
    let s1 := s.runWrite
    if s1.port.state = .idle then s1 else s1.toAddress none s1.port.ten true
  | .routedCt => s.pauseTxn.holdPhase .ct
  | .routedRead => s.pauseTxn.holdPhase .read
  | .postedFill => s.holdPhase .fill
  | .address | .tenFirst => s.toAddress s.port.held s.port.ten true
  | .mgmtRead | .notAddressed => s.toAddress none s.port.ten true

/-- A STOP: the phase ends by the table of R68, the held phase as at STOP, and the port enters IDLE. -/
def State.takeStop (s : State) : State :=
  match s.port.state with
  | .idle => s
  | .mgmtWrite => s.runWrite.toIdle
  | .routedCt | .routedRead => (s.endUpstream Txn.takeNormal).toIdle
  | .postedFill => s.closeFill.toIdle
  | .address | .tenFirst => s.endHeld.toIdle
  | .mgmtRead | .notAddressed => s.toIdle

/-- A condition taken normally (R68, R69). -/
def State.takeCondition (s : State) : Condition → State
  | .start => s.takeStart
  | .stop => s.takeStop

/-- A condition inside a byte: the transaction abandoned as R74 states, without the device flag, and the condition then
taken from IDLE; in IDLE and NOT_ADDRESSED it is never misplaced (R75). -/
def State.takeMisplaced (s : State) (c : Condition) : State :=
  if s.port.state = .idle ∨ s.port.state = .notAddressed then s.takeCondition c
  else if s.port.stretch.isSome then s
  else s.abandonPhase.toIdle.takeCondition c

/-- START. -/
def execStart (s : State) : Host.Outcome State Fault Refusal :=
  .next (s.running fun s => if s.port.open then s.takeStart else s)

/-- REPEATED_START: the same condition as START, which the port tells apart by its state (R55; log entry 19). -/
def execRepeatedStart (s : State) : Host.Outcome State Fault Refusal :=
  .next (s.running fun s => if s.port.open then s.takeStart else s)

/-- STOP. -/
def execStop (s : State) : Host.Outcome State Fault Refusal :=
  .next (s.running fun s => if s.port.open then s.takeStop else s)

/-- MISPLACED_CONDITION. -/
def execMisplacedCondition (c : Condition) (s : State) : Host.Outcome State Fault Refusal :=
  .next (s.running fun s => s.takeMisplaced c)

/-! ### Address bytes (R57, R64 to R66) -/

/-- Whether the port receives an address byte now: in ADDRESS, with no acknowledge withheld. -/
def Port.atAddress (p : Port) : Bool := p.state = .address && p.wait.isNone

/-- ADDRESS_BYTE. -/
def execAddressByte (a : Addr7) (read : Bool) (s : State) : Host.Outcome State Fault Refusal :=
  .next (s.running fun s => if s.port.atAddress then s.decideAddress a read else s)

/-- TEN_BIT_FIRST_BYTE. -/
def execTenBitFirstByte (upper : BitVec 2) (s : State) : Host.Outcome State Fault Refusal :=
  .next (s.running fun s => if s.port.atAddress then s.decideTenFirst upper else s)

/-- TEN_BIT_SECOND_BYTE. -/
def execTenBitSecondByte (lower : Byte) (s : State) : Host.Outcome State Fault Refusal :=
  .next (s.running fun s => if s.port.state = .tenFirst then s.decideTenSecond lower else s)

/-- TEN_BIT_READ_FORM. -/
def execTenBitReadForm (upper : BitVec 2) (s : State) : Host.Outcome State Fault Refusal :=
  .next (s.running fun s => if s.port.atAddress then s.decideTenRead upper else s)

/-! ### Management bytes (R59, R60) -/

/-- A byte of a management write: stored and ACKed below 24 bytes, else NACKed with the overlong mark (R59). -/
def State.takeMgmtByte (s : State) (b : Byte) : State :=
  if s.port.asm.length < Config.assemblySize then
    { s with port := Port.sclFalls { s.port with asm := s.port.asm ++ [b], out := .ack } }
  else { s with port := Port.sclFalls { s.port with overlong := true, out := .nack } }

/-- A byte of a management read with the master's acknowledge: the next byte of the response, or FFh past the end; a
NACK ends the sending of data (R55, R60). -/
def State.sendMgmtByte (s : State) (masterAck : Bool) : State :=
  { s with port := Port.sclFalls { s.port with send := if masterAck then s.port.send.tail else []
                                               out := .byte (s.port.send.head?.getD 0xFF) } }

/-- MGMT_WRITE_BYTE. -/
def execMgmtWriteByte (b : Byte) (s : State) : Host.Outcome State Fault Refusal :=
  .next (s.running fun s => if s.port.state = .mgmtWrite then s.takeMgmtByte b else s)

/-- MGMT_READ_BYTE. -/
def execMgmtReadByte (masterAck : Bool) (s : State) : Host.Outcome State Fault Refusal :=
  .next (s.running fun s => if s.port.state = .mgmtRead then s.sendMgmtByte masterAck else s)

/-! ### Routed bytes (R83 to R88, R102) -/

/-- An answer put on upstream SDA without a stretch. -/
def State.answer (s : State) (a : UpOut) : State := { s with port := Port.sclFalls { s.port with out := a } }

/-- The fill limit of a slot's current record (R102). -/
def State.slotFillLimit (s : State) (i : SlotId) : Nat := ((s.slot i).cur.map RouteRecord.fillLimit).getD 0

/-- A byte of a posted fill: appended and ACKed below the fill limit, else NACKed with the overlong mark (R102). -/
def State.takeFillByte (s : State) (b : Byte) : State :=
  match s.fill with
  | none => s
  | some p =>
    let x := s.frame p.frame
    if x.bytes.length < (x.owner.map s.slotFillLimit).getD 0 then
      (s.setFrame p.frame { x with bytes := x.bytes ++ [b] }).answer .ack
    else (s.setFrame p.frame { x with overlong := true }).answer .nack

/-- The max write length of a slot's current record (R85). -/
def State.slotMaxLen (s : State) (i : SlotId) : Nat := ((s.slot i).cur.map RouteRecord.maxLen).getD 0

/-- A byte on its way to the target (R83). -/
def Down.send (d : Down) (b : Byte) : Down := { d with pos := .byte, out := b }

/-- A data byte of a cut-through write: NACKed at once after a refused byte of the phase (R84); beyond the max write
length NACKed at once, with LENGTH_EXCEEDED and the transaction ended with ABORTED (R85); else relayed with the
acknowledge withheld (R83). -/
def State.takeCtByte (s : State) (b : Byte) : State :=
  match s.txn with
  | none => s
  | some t =>
    if t.phaseRefused then s.answer .nack
    else if s.slotMaxLen t.slot ≤ t.count then
      ((s.raiseSlot t.slot .lengthExceeded).endUpstream (fun t => t.takeFinal .aborted)).nackUp false
    else (s.mapDown t.seg (fun d => d.send b)).beginStretch

/-- Where the segment stands in the routed transaction. -/
def State.routedPos (s : State) : Option LinePos :=
  s.txn.bind (fun t => (s.seg t.seg).down.map Down.pos)

/-- The segment goes on to clock a read byte, with the stretch before it (R87). -/
def State.nextReadByte (s : State) (g : Seg) : State :=
  (s.mapDown g (fun d => { d with pos := .readByte })).beginStretch

/-- The upstream master has clocked a read byte: it is no longer before its first one (R88). -/
def State.byteClocked (s : State) : State := { s with port := { s.port with firstByte := false } }

/-- The master's acknowledge of a read byte: ACK asks for the next byte and the stretch before it begins (log entry
24); NACK ends the sending and the segment holds at the byte boundary (R87, R88). -/
def State.takeReadAck (s : State) (masterAck : Bool) : State :=
  match s.txn with
  | none => s
  | some t =>
    if masterAck then (s.byteClocked.answer .released).nextReadByte t.seg
    else (s.byteClocked.mapDown t.seg (fun d => { d with pos := .boundary })).answer .released

/-- POSTED_FILL_BYTE. -/
def execPostedFillByte (b : Byte) (s : State) : Host.Outcome State Fault Refusal :=
  .next (s.running fun s => if s.port.state = .postedFill then s.takeFillByte b else s)

/-- CUT_THROUGH_DATA_BYTE. -/
def execCutThroughDataByte (b : Byte) (s : State) : Host.Outcome State Fault Refusal :=
  .next (s.running fun s => if s.port.state = .routedCt ∧ s.port.stretch = none then s.takeCtByte b else s)

/-- READ_DATA_ACK. -/
def execReadDataAck (masterAck : Bool) (s : State) : Host.Outcome State Fault Refusal :=
  .next (s.running fun s =>
    if s.port.state = .routedRead ∧ s.port.stretch = none ∧ s.routedPos = some .readAck then s.takeReadAck masterAck
    else s)

/-! ### The limits (R71, R74) -/

/-- The segment of a slot's current record; only a FREE slot has none. -/
def State.slotSeg (s : State) (i : SlotId) : Seg := ((s.slot i).cur.map RouteRecord.seg).getD .a

/-- The stretch timer reaches the hold limit (R63, R71, R80): a deferred address phase is dropped and its slot takes
HOLD_EXPIRED before grant; a waiting claim is withdrawn with it; a granted transaction takes it as final and ends at
the next byte boundary. -/
def State.expireHold (s : State) : State :=
  match s.port.wait, s.txn with
  | some w, some t =>
    if w.deferred then (s.dropDeferred w).report w.slot (s.slotSeg w.slot) (.holdExpired false) false
    else if t.stage = .waiting then (s.withdraw t).report t.slot t.seg (.holdExpired false) false
    else s.breakUp.endUpstream (fun t => t.takeFinal (.holdExpired t.answered))
  | none, some _ => s.breakUp.endUpstream (fun t => t.takeFinal (.holdExpired t.answered))
  | _, none => s.breakUp

/-- HOLD_LIMIT_EXPIRY. -/
def execHoldLimitExpiry (s : State) : Host.Outcome State Fault Refusal :=
  .next (s.running fun s => if s.port.stretch.isSome then s.expireHold else s)

/-- UPSTREAM_LOW_TIMEOUT: the upstream-low timer, which runs, reaches its limit: the transaction abandoned,
UPSTREAM_TIMEOUT raised, the port IDLE (R73, R74). -/
def execUpstreamLowTimeout (s : State) : Host.Outcome State Fault Refusal :=
  .next (s.running fun s => if s.port.low.isSome then (s.abandonPhase.raiseDevice .upstreamTimeout).toIdle else s)

end Sys2Proof.Machine
end

