-- ==== Sys2Proof/Machine/SegmentEvents.lean ====
section
/-! DEFINITION. The rows of the segments: what the part reads from its own transactions, their ends, recovery, other
masters and the alert lines. A row that does not meet the transaction it belongs to has no effect (log entry 1). -/

namespace Sys2Proof.Machine

/-! ### Answers in a routed transaction (R82 to R88, R91, R92, R96) -/

/-- Whether nothing after the byte in progress is sent: the transaction ends at this byte boundary (R132). -/
def Down.ending (d : Down) : Bool := d.detached || d.after = .stop

/-- The transaction in its STOP. -/
def Down.toStop (d : Down) : Down := { d with pos := .stop, after := .stop }

/-- The port given the target's ACK of an address byte: ROUTED_CT, or ROUTED_READ with the hold before the first byte
(R62, R65, R82, R87). -/
def State.ackUp (s : State) (i : SlotId) (read : Bool) : State :=
  let s1 := { s with port := Port.sclFalls { Port.idle with
    state := if read then .routedRead else .routedCt
    hand := some i
    firstByte := read
    ten := tenAfterAck s.port.ten (s.port.wait.bind Wait.ten) i
    out := .ack } }
  if read then s1.beginStretch else s1

/-- The target's answer to an address byte of a routed transaction whose answer is awaited upstream (R82). -/
def State.routedAddressAnswer (s : State) (g : Seg) (d : Down) (t : Txn) (ack : Bool) : State :=
  if ack then
    ((({ s with txn := some { t with answered := true, stage := if d.read then .read else .write,
                                     phaseRefused := false, count := 0 } }).setDown g
      { d with pos := if d.read then .readByte else .boundary }).ackUp t.slot d.read)
  else
    (({ s with txn := some { t.takeFinal .targetNack with stage := .tail } }).setDown g d.toStop).nackUp
      s.port.waitIsTen

/-- An address answer of a routed transaction: the presence map, then the answer upstream, or the STOP when the
transaction ends at this boundary (R82, R96, R132). -/
def State.takeAddressAnswer (s : State) (g : Seg) (ack : Bool) : State :=
  match (s.seg g).down, s.txn with
  | some d, some t =>
    if d.work = .routed false ∧ d.pos = .addr then
      let s1 := s.notePresence g d.target ack
      if d.ending ∨ t.stage ≠ .address then s1.setDown g d.toStop else s1.routedAddressAnswer g d t ack
    else s
  | some d, none =>
    if d.work = .routed false ∧ d.pos = .addr then (s.notePresence g d.target ack).setDown g d.toStop else s
  | none, _ => s

/-- The target's answer to a relayed write byte: counted, given upstream, and a NACK sets the refused mark (R83, R84).
In a transaction that ends at this boundary it is not given upstream. -/
def State.takeCtAnswer (s : State) (g : Seg) (ack : Bool) : State :=
  match (s.seg g).down with
  | none => s
  | some d =>
    if d.work = .routed false ∧ d.pos = .byte then
      match s.txn with
      | none => s.setDown g d.toStop
      | some t =>
        if d.ending ∨ t.stage ≠ .write then s.setDown g d.toStop
        else
          (({ s with txn := some { t with count := t.count + 1, refused := t.refused || !ack,
                                          phaseRefused := !ack } }).setDown g { d with pos := .boundary }).endStretch
            (if ack then .ack else .nack)
    else s

/-- A read byte clocked: sent upstream in stage READ; otherwise given NACK, and the segment goes on to the boundary,
the STOP or the repeated START that was asked for (R69, R87, R88, R132). -/
def State.takeReadByte (s : State) (g : Seg) (b : Byte) : State :=
  match (s.seg g).down with
  | none => s
  | some d =>
    if d.work = .routed false ∧ d.pos = .readByte then
      if d.ending then s.setDown g d.toStop
      else match d.after with
        | .restart read => s.setDown g (d.restart read)
        | _ =>
          match s.txn with
          | none => s.setDown g d.toStop
          | some t =>
            if t.stage = .read then (s.setDown g { d with pos := .readAck }).endStretch (.byte b)
            else s.setDown g { d with pos := .boundary }
    else s

/-- The compound frame returned with the loss of its data, when it has not been returned yet (R92). -/
def State.loseCompound (s : State) (t : Txn) : State :=
  { s.dropCompound t with txn := some { t with frame := none } }

/-- The compound frame returned without loss (R91, R92). -/
def State.returnCompound (s : State) (t : Txn) : State :=
  { (if t.frame.isSome then s.releaseFill else s) with txn := some { t with frame := none } }

/-- The next byte of a frame, or what follows the last one. -/
def Down.nextByte (d : Down) (last : Down) : Down :=
  match d.left with
  | [] => last
  | b :: rest => { d with pos := .byte, out := b, left := rest }

/-- The answer to an address, data or check byte of a compound frame whose upstream address still waits (R91, R92). -/
def State.frameOutAnswer (s : State) (g : Seg) (d : Down) (t : Txn) (ack : Bool) : State :=
  if ack then
    let t1 := { t with answered := t.answered || d.pos = .addr }
    if d.left = [] then
      ((s.returnCompound { t1 with stage := .address })).setDown g (d.restart true)
    else ({ s with txn := some t1 }).setDown g (d.nextByte d)
  else if d.pos = .addr then
    ((s.returnCompound { t.takeFinal .targetNack with stage := .tail }).setDown g d.toStop).nackUp s.port.waitIsTen
  else
    ((s.loseCompound { { t with refused := true }.takeNormal with stage := .tail }).setDown g d.toStop).nackUp
      s.port.waitIsTen

/-- An answer in a compound frame: the presence map for the address byte, then the frame goes on, or the frame is lost
at the boundary where the transaction ends (R91, R92, R96, R97). -/
def State.takeFrameOutAnswer (s : State) (g : Seg) (ack : Bool) : State :=
  match (s.seg g).down with
  | none => s
  | some d =>
    if d.work = .routed true ∧ (d.pos = .addr ∨ d.pos = .byte) then
      let s1 := if d.pos = .addr then s.notePresence g d.target ack else s
      match s.txn with
      | none => s1.setDown g d.toStop
      | some t =>
        if d.detached then s1.setDown g d.toStop
        else if t.stage = .frameOut then s1.frameOutAnswer g d t ack
        else (s1.loseCompound t).setDown g d.toStop
    else s

/-! ### Answers in a delivery, a probe and an identify read (R109 to R112, R150, R156) -/

/-- A delivery after an answer: the next byte after an ACK, the STOP after the last one or at an end; a NACK takes its
outcome unless one is taken (R112). -/
def Down.deliveryAnswer (d : Down) (f : FrameId) (outcome : Option OutcomeKind) (ack : Bool) (refusal : OutcomeKind) :
    Down :=
  if ack then
    if d.left = [] then { d.toStop with work := .delivery f outcome true }
    else if d.ending then d.toStop
    else d.nextByte d
  else { d.toStop with work := .delivery f (outcome.orElse fun _ => some refusal) false }

/-- The answer to a delivery's address byte (R110, R112). -/
def State.takeDeliveryAddress (s : State) (g : Seg) (ack : Bool) : State :=
  match (s.seg g).down with
  | none => s
  | some d =>
    match d.work with
    | .delivery f k _ =>
      if d.pos = .addr then (s.notePresence g d.target ack).setDown g (d.deliveryAnswer f k ack .targetNack) else s
    | _ => s

/-- The answer to a delivered data byte or regenerated check byte (R112). -/
def State.takeDeliveryByte (s : State) (g : Seg) (ack : Bool) : State :=
  match (s.seg g).down with
  | none => s
  | some d =>
    match d.work with
    | .delivery f k _ => if d.pos = .byte then s.setDown g (d.deliveryAnswer f k ack .writeRefused) else s
    | _ => s

/-- The answer to a probe: the presence map, the STOP, and the cursor's advance or completion (R150, R152). -/
def State.takeProbeAnswer (s : State) (g : Seg) (ack : Bool) : State :=
  match (s.seg g).down with
  | none => s
  | some d =>
    match d.work with
    | .probe sweeping =>
      if d.pos = .addr then
        let s1 := (s.notePresence g d.target ack).setDown g d.toStop
        if sweeping ∧ d.detached = false then s1.advanceCursor g else s1
      else s
    | _ => s

/-- The answer to the identify address byte: the presence map, then the data byte after an ACK, the STOP after a NACK
or at an end (R156, R158). -/
def State.takeIdentifyAddress (s : State) (g : Seg) (ack : Bool) : State :=
  match (s.seg g).down with
  | none => s
  | some d =>
    match d.work with
    | .identify _ b =>
      if d.pos = .addr then
        let d1 := { d with work := .identify (some ack) b }
        (s.notePresence g d.target ack).setDown g (if ack ∧ d.ending = false then { d1 with pos := .readByte } else d1.toStop)
      else s
    | _ => s

/-- The identify data byte, given NACK; the result is taken at the end of the read (R156, R157; log entry 11). -/
def State.takeIdentifyByte (s : State) (g : Seg) (b : Byte) : State :=
  match (s.seg g).down with
  | none => s
  | some d =>
    match d.work with
    | .identify a _ => if d.pos = .readByte then s.setDown g { d.toStop with work := .identify a (some b) } else s
    | _ => s

/-! ### The end of a transaction of the part (R131, R133, R134, R136) -/

/-- The part's STOP is complete in OWNED. The segment leaves OWNED, for IDLE or, after SEGMENT_CLEAR, for RECOVERING;
then the work is finished with its report (R86, R114, R141). In IDLE a held configuration is installed, a deferred
address phase is checked again, and the arbiter runs (R63, R124, R131; log entry 8). -/
def State.stopOwned (s : State) (g : Seg) (d : Down) : State :=
  if d.clear then (((s.beginRecovery g).finishWork g d).recheckDeferred).withdrawAt g
  else ((((s.freeLines g).finishWork g d).installNext g).recheckDeferred).arbitrate g

/-- The part's STOP is complete. What is left of a transaction after SOFT_RESET ALL belongs to a segment that is not
OWNED; another STOP on the lines of an EXTERNAL segment makes it IDLE (R128; log entry 10). -/
def State.takeStopComplete (s : State) (g : Seg) : State :=
  match (s.seg g).down with
  | none => s
  | some d =>
    if d.pos = .stop then
      if (s.seg g).state = .owned then s.stopOwned g d
      else if (s.seg g).state = .external then s.enterIdle g
      else s.dropDown g
    else s

/-- The upstream side of the routed transaction, if it is still open, ends under it (R72): a stretch is answered; a held
phase is gone (log entry 27). -/
def State.endUnder (s : State) (t : Txn) : State :=
  if t.stage = .tail then s
  else if t.stage = .paused then { s with port := { s.port with held := none } }
  else s.breakUp

/-- A routed transaction that ends on the segment's side with an outcome; a final one already taken stays (R72, R92,
R93, R94). -/
def State.failRouted (s : State) (k : OutcomeKind) : State :=
  match s.txn with
  | none => s
  | some t => ((s.endUnder t).loseCompound t).endTxn (t.takeFinal k).outcome

/-- Whether a routed claim that lost arbitration is granted again: at the first address byte with retries left (R134). -/
def State.retriesLeft (s : State) (g : Seg) : Bool :=
  (s.seg g).claim.any (fun c => c.loss < (s.seg g).cfg.retry)

/-- A routed claim that lost arbitration waits again, one loss higher (R81, R134). -/
def State.retryRouted (s : State) (g : Seg) : State :=
  (s.setSeg g { s.seg g with claim := (s.seg g).claim.map (fun c => { c with loss := c.loss + 1 }) }).setStage .waiting

/-- What arbitration loss does to a routed transaction, the segment already EXTERNAL (R81, R92, R134). A transaction in
TAIL reports the outcome it has taken (R132). -/
def State.routedLoss (s : State) (g : Seg) (d : Down) : State :=
  match s.txn with
  | none => s
  | some t =>
    if t.stage = .tail then (s.loseCompound t).endTxn t.outcome
    else if d.first ∧ d.pos = .addr ∧ s.retriesLeft g then s.retryRouted g
    else s.failRouted .arbLost

/-- What arbitration loss does to a delivery, the segment already EXTERNAL: the retry of R113 with the examination of
the owner's pending record, or its end (R112, R113; log entry 16). -/
def State.deliveryLoss (s : State) (g : Seg) (d : Down) (f : FrameId) (k : Option OutcomeKind) : State :=
  match k with
  | some kind => s.endDelivery g f kind (deliveryDrops kind false)
  | none =>
    if d.pos = .addr ∧ (s.seg g).headLoss < (s.seg g).cfg.retry then
      let s1 := s.setSeg g { s.seg g with headLoss := (s.seg g).headLoss + 1 }
      match (s.frame f).owner with
      | some i => s1.examine i false
      | none => s1
    else s.endDelivery g f .arbLost true

/-- Arbitration lost in a byte the part sends: the segment enters EXTERNAL without a STOP, another master holding SDA low,
so that the low-limit timer runs on, and the work ends or waits for a retry (R133, R145). -/
def State.takeArbitrationLoss (s : State) (g : Seg) : State :=
  match (s.seg g).down with
  | none => s
  | some d =>
    if d.pos = .addr ∨ d.pos = .byte then
      if (s.seg g).state = .owned then
        let s1 := s.setSeg g { s.seg g with
          state := .external, down := none, busFree := none, low := some ((s.seg g).low.getD 0) }
        if d.detached then s1
        else match d.work with
          | .routed _ => s1.routedLoss g d
          | .delivery f k _ => s1.deliveryLoss g d f k
          | .probe _ | .identify _ _ => s1
      else s.dropDown g
    else s

/-- Whether the low-limit timer can run: in IDLE and EXTERNAL; in OWNED while the part does not itself hold SCL (R135). -/
def Segment.lowTimerRuns (x : Segment) : Bool :=
  match x.state with
  | .idle | .external => true
  | .owned => x.down.any (fun d => !d.holdsScl)
  | .disabled | .recovering | .faulted => false

/-- What the low limit does to the work of the part, the segment already RECOVERING (R136; log entry 17). -/
def State.timeoutWork (s : State) (g : Seg) (d : Down) : State :=
  if d.detached then s
  else match d.work with
    | .routed _ => s.failRouted .timeout
    | .delivery f k acked =>
      if d.clear then s.endDelivery g f (k.getD .aborted) (deliveryDrops (k.getD .aborted) acked)
      else s.endDelivery g f .timeout false
    | .probe _ => s
    | .identify a b => s.endIdentify g a b

/-- The low-limit timer reaches the low limit: LOW_TIMEOUT, recovery at attempt 1, the work in progress ended, and a
waiting routed claim withdrawn (R136). -/
def State.takeLowTimeout (s : State) (g : Seg) : State :=
  if (s.seg g).lowTimerRuns then
    let s1 := (s.beginRecovery g).raiseSeg g .lowTimeout
    match (s.seg g).down with
    | some d => (s1.timeoutWork g d).withdrawAt g
    | none => s1.withdrawAt g
  else s

/-! ### Recovery, other masters and the alert lines (R128, R137 to R139, R154, R155) -/

/-- A recovery pulse: the count rises; with SDA high and the STOP formed recovery succeeds; the ninth pulse without a
STOP ends the attempt, and the third attempt the recovery; the low-limit timer starts again with each pulse (R137). -/
def State.takePulse (s : State) (g : Seg) (sdaHigh stopRose : Bool) : State :=
  let x := s.seg g
  if x.state = .recovering then
    if sdaHigh ∧ stopRose then s.succeedRecovery g
    else if x.pulses + 1 < Config.pulsesPerAttempt then s.setSeg g { x with pulses := x.pulses + 1, low := some 0 }
    else if x.attempt < Config.recoveryAttempts then s.setSeg g { x with attempt := x.attempt + 1, pulses := 0, low := some 0 }
    else s.failRecovery g
  else s

/-- The end of an EXTERNAL period: the segment enters IDLE (R128). While a transaction left by SOFT_RESET ALL is still on
the lines they are not free (log entry 10). -/
def State.takeFree (s : State) (g : Seg) : State :=
  if (s.seg g).state = .external ∧ (s.seg g).down = none then s.enterIdle g else s

/-- Another master's START, or a fall of SCL: IDLE becomes EXTERNAL, EXTERNAL stays, the bus-free timer stops and the
low-limit timer starts (R128, R135, R145). What SOFT_RESET ALL left on the lines lets no other START be seen (log entry
10). -/
def State.takeExternalStart (s : State) (g : Seg) : State :=
  if (s.seg g).state = .idle ∨ ((s.seg g).state = .external ∧ (s.seg g).down = none) then
    s.setSeg g { s.seg g with state := .external, busFree := none, low := some 0 }
  else s

/-- A falling edge of the alert line: the level, the identification count 0, and the arbiter's run for the claim it may
place (R154, R155). -/
def State.takeAlertFall (s : State) (g : Seg) : State :=
  if (s.seg g).alertLow then s
  else (s.setSeg g { s.seg g with alertLow := true, idCount := 0 }).arbitrate g

/-- A rising edge of the alert line; the claim, which is computed from the level, is gone with it (R155). -/
def State.takeAlertRise (s : State) (g : Seg) : State := s.setSeg g { s.seg g with alertLow := false }

/-! ### The meanings of the rows -/

/-- TARGET_ADDRESS_ANSWER. -/
def execTargetAddressAnswer (g : Seg) (ack : Bool) (s : State) : Host.Outcome State Fault Refusal :=
  .next (s.running fun s => s.takeAddressAnswer g ack)

/-- CUT_THROUGH_BYTE_ANSWER. -/
def execCutThroughByteAnswer (g : Seg) (ack : Bool) (s : State) : Host.Outcome State Fault Refusal :=
  .next (s.running fun s => s.takeCtAnswer g ack)

/-- READ_BYTE_CLOCKED. -/
def execReadByteClocked (g : Seg) (b : Byte) (s : State) : Host.Outcome State Fault Refusal :=
  .next (s.running fun s => s.takeReadByte g b)

/-- FRAME_OUT_BYTE_ANSWER. -/
def execFrameOutByteAnswer (g : Seg) (ack : Bool) (s : State) : Host.Outcome State Fault Refusal :=
  .next (s.running fun s => s.takeFrameOutAnswer g ack)

/-- DELIVERY_ADDRESS_ANSWER. -/
def execDeliveryAddressAnswer (g : Seg) (ack : Bool) (s : State) : Host.Outcome State Fault Refusal :=
  .next (s.running fun s => s.takeDeliveryAddress g ack)

/-- DELIVERY_BYTE_ANSWER. -/
def execDeliveryByteAnswer (g : Seg) (ack : Bool) (s : State) : Host.Outcome State Fault Refusal :=
  .next (s.running fun s => s.takeDeliveryByte g ack)

/-- PROBE_ANSWER. -/
def execProbeAnswer (g : Seg) (ack : Bool) (s : State) : Host.Outcome State Fault Refusal :=
  .next (s.running fun s => s.takeProbeAnswer g ack)

/-- IDENTIFY_ADDRESS_ANSWER. -/
def execIdentifyAddressAnswer (g : Seg) (ack : Bool) (s : State) : Host.Outcome State Fault Refusal :=
  .next (s.running fun s => s.takeIdentifyAddress g ack)

/-- IDENTIFY_DATA_BYTE. -/
def execIdentifyDataByte (g : Seg) (b : Byte) (s : State) : Host.Outcome State Fault Refusal :=
  .next (s.running fun s => s.takeIdentifyByte g b)

/-- SEGMENT_STOP_COMPLETE. -/
def execSegmentStopComplete (g : Seg) (s : State) : Host.Outcome State Fault Refusal :=
  .next (s.running fun s => s.takeStopComplete g)

/-- ARBITRATION_LOSS. -/
def execArbitrationLoss (g : Seg) (s : State) : Host.Outcome State Fault Refusal :=
  .next (s.running fun s => s.takeArbitrationLoss g)

/-- SEGMENT_LOW_TIMEOUT. -/
def execSegmentLowTimeout (g : Seg) (s : State) : Host.Outcome State Fault Refusal :=
  .next (s.running fun s => s.takeLowTimeout g)

/-- RECOVERY_PULSE. -/
def execRecoveryPulse (g : Seg) (sdaHigh stopRose : Bool) (s : State) : Host.Outcome State Fault Refusal :=
  .next (s.running fun s => s.takePulse g sdaHigh stopRose)

/-- RECOVERY_LOW_LIMIT. -/
def execRecoveryLowLimit (g : Seg) (s : State) : Host.Outcome State Fault Refusal :=
  .next (s.running fun s => if (s.seg g).state = .recovering then s.failRecovery g else s)

/-- BUS_FREE_TIME. -/
def execBusFreeTime (g : Seg) (s : State) : Host.Outcome State Fault Refusal :=
  .next (s.running fun s => s.takeFree g)

/-- EXTERNAL_START. -/
def execExternalStart (g : Seg) (s : State) : Host.Outcome State Fault Refusal :=
  .next (s.running fun s => s.takeExternalStart g)

/-- EXTERNAL_STOP. -/
def execExternalStop (g : Seg) (s : State) : Host.Outcome State Fault Refusal :=
  .next (s.running fun s => s.takeFree g)

/-- SEGMENT_ALERT_FALL. While device reset lasts the level moves and nothing acts on it (R203). -/
def execSegmentAlertFall (g : Seg) (s : State) : Host.Outcome State Fault Refusal :=
  .next (if s.inReset then s.setSeg g { s.seg g with alertLow := true } else s.takeAlertFall g)

/-- SEGMENT_ALERT_RISE. -/
def execSegmentAlertRise (g : Seg) (s : State) : Host.Outcome State Fault Refusal :=
  .next (s.takeAlertRise g)

end Sys2Proof.Machine
end

