-- ==== Sys2Proof/Machine/Dispatch.lean ====
section
/-! DEFINITION. One arm for each command: the meaning of each row. -/

namespace Sys2Proof.Machine

def exec (i : Instr) (s : State) : Host.Outcome State Fault Refusal :=
  match i with
  | .start => Sys2Proof.Machine.execStart s
  | .repeatedStart => Sys2Proof.Machine.execRepeatedStart s
  | .stop => Sys2Proof.Machine.execStop s
  | .misplacedCondition condition => Sys2Proof.Machine.execMisplacedCondition condition s
  | .addressByte address read => Sys2Proof.Machine.execAddressByte address read s
  | .tenBitFirstByte upper => Sys2Proof.Machine.execTenBitFirstByte upper s
  | .tenBitSecondByte lower => Sys2Proof.Machine.execTenBitSecondByte lower s
  | .tenBitReadForm upper => Sys2Proof.Machine.execTenBitReadForm upper s
  | .mgmtWriteByte byte => Sys2Proof.Machine.execMgmtWriteByte byte s
  | .mgmtReadByte masterAck => Sys2Proof.Machine.execMgmtReadByte masterAck s
  | .postedFillByte byte => Sys2Proof.Machine.execPostedFillByte byte s
  | .cutThroughDataByte byte => Sys2Proof.Machine.execCutThroughDataByte byte s
  | .readDataAck masterAck => Sys2Proof.Machine.execReadDataAck masterAck s
  | .holdLimitExpiry => Sys2Proof.Machine.execHoldLimitExpiry s
  | .upstreamLowTimeout => Sys2Proof.Machine.execUpstreamLowTimeout s
  | .editExpiry => Sys2Proof.Machine.execEditExpiry s
  | .deviceIdent tag check => Sys2Proof.Machine.execDeviceIdent tag check s
  | .deviceConfigRead tag check => Sys2Proof.Machine.execDeviceConfigRead tag check s
  | .deviceConfigWrite tag check hold idle required m3 m2 m1 m0 => Sys2Proof.Machine.execDeviceConfigWrite tag check hold idle required m3 m2 m1 m0 s
  | .softResetRoutes tag check => Sys2Proof.Machine.execSoftResetRoutes tag check s
  | .softResetAll tag check => Sys2Proof.Machine.execSoftResetAll tag check s
  | .editOpen tag check => Sys2Proof.Machine.execEditOpen tag check s
  | .editStage tag check token slot action entry => Sys2Proof.Machine.execEditStage tag check token slot action entry s
  | .editUnstage tag check token slot => Sys2Proof.Machine.execEditUnstage tag check token slot s
  | .editList tag check token => Sys2Proof.Machine.execEditList tag check token s
  | .editCommit tag check token => Sys2Proof.Machine.execEditCommit tag check token s
  | .editAbandon tag check token => Sys2Proof.Machine.execEditAbandon tag check token s
  | .routeHold tag check slot => Sys2Proof.Machine.execRouteHold tag check slot s
  | .routeResume tag check slot => Sys2Proof.Machine.execRouteResume tag check slot s
  | .routeRelease tag check slot => Sys2Proof.Machine.execRouteRelease tag check slot s
  | .routeRead tag check slot => Sys2Proof.Machine.execRouteRead tag check slot s
  | .routeFindVirtual tag check formAndUpper lower => Sys2Proof.Machine.execRouteFindVirtual tag check formAndUpper lower s
  | .routeFindTarget tag check segment target => Sys2Proof.Machine.execRouteFindTarget tag check segment target s
  | .segmentConfig tag check segment enable speed lowLimit retry alert => Sys2Proof.Machine.execSegmentConfig tag check segment enable speed lowLimit retry alert s
  | .segmentClear tag check segment => Sys2Proof.Machine.execSegmentClear tag check segment s
  | .segmentStatus tag check segment => Sys2Proof.Machine.execSegmentStatus tag check segment s
  | .segmentDiscover tag check segment => Sys2Proof.Machine.execSegmentDiscover tag check segment s
  | .discoverCancel tag check segment => Sys2Proof.Machine.execDiscoverCancel tag check segment s
  | .presenceRead tag check segment => Sys2Proof.Machine.execPresenceRead tag check segment s
  | .attentionSummary tag check => Sys2Proof.Machine.execAttentionSummary tag check s
  | .attentionRead tag check kind number => Sys2Proof.Machine.execAttentionRead tag check kind number s
  | .attentionAck tag check kind number stamp high low => Sys2Proof.Machine.execAttentionAck tag check kind number stamp high low s
  | .targetAddressAnswer seg ack => Sys2Proof.Machine.execTargetAddressAnswer seg ack s
  | .cutThroughByteAnswer seg ack => Sys2Proof.Machine.execCutThroughByteAnswer seg ack s
  | .readByteClocked seg byte => Sys2Proof.Machine.execReadByteClocked seg byte s
  | .frameOutByteAnswer seg ack => Sys2Proof.Machine.execFrameOutByteAnswer seg ack s
  | .deliveryAddressAnswer seg ack => Sys2Proof.Machine.execDeliveryAddressAnswer seg ack s
  | .deliveryByteAnswer seg ack => Sys2Proof.Machine.execDeliveryByteAnswer seg ack s
  | .probeAnswer seg ack => Sys2Proof.Machine.execProbeAnswer seg ack s
  | .identifyAddressAnswer seg ack => Sys2Proof.Machine.execIdentifyAddressAnswer seg ack s
  | .identifyDataByte seg byte => Sys2Proof.Machine.execIdentifyDataByte seg byte s
  | .segmentStopComplete seg => Sys2Proof.Machine.execSegmentStopComplete seg s
  | .arbitrationLoss seg => Sys2Proof.Machine.execArbitrationLoss seg s
  | .segmentLowTimeout seg => Sys2Proof.Machine.execSegmentLowTimeout seg s
  | .recoveryPulse seg sdaHigh stopRose => Sys2Proof.Machine.execRecoveryPulse seg sdaHigh stopRose s
  | .recoveryLowLimit seg => Sys2Proof.Machine.execRecoveryLowLimit seg s
  | .busFreeTime seg => Sys2Proof.Machine.execBusFreeTime seg s
  | .externalStart seg => Sys2Proof.Machine.execExternalStart seg s
  | .externalStop seg => Sys2Proof.Machine.execExternalStop seg s
  | .segmentAlertFall seg => Sys2Proof.Machine.execSegmentAlertFall seg s
  | .segmentAlertRise seg => Sys2Proof.Machine.execSegmentAlertRise seg s
  | .deviceReset => Sys2Proof.Machine.execDeviceReset s
  | .deviceResetEnd adr1 adr0 => Sys2Proof.Machine.execDeviceResetEnd adr1 adr0 s

end Sys2Proof.Machine
end

