-- ==== Sys2Proof/Machine/Step.lean ====
section
/-! DEFINITION. The machine's step: the command at the front of the queue, or 1 ms of waiting. -/

namespace Sys2Proof.Machine

/-- A count one higher while it is below its limit less one: a limit is reached by its own row alone (log entry 2). -/
def countUp (elapsed limit : Nat) : Nat := if elapsed + 1 < limit then elapsed + 1 else elapsed

/-- The timers of a segment after 1 ms: the bus-free timer, in µs, and the low-limit timer (R128, R135). -/
def Segment.tick (x : Segment) : Segment :=
  { x with busFree := x.busFree.map (fun _ => Config.busFree - 1)
           low := x.low.map (fun t => countUp t x.cfg.lowLimit) }

/-- 1 ms without a command: each timer that runs rises below its limit (R34, R70, R73, R128, R135; log entry 2). -/
def State.tick (s : State) : State :=
  { s with
    port := { s.port with stretch := s.port.stretch.map (fun t => { t with elapsed := countUp t.elapsed t.limit })
                          low := s.port.low.map (fun t => countUp t Config.upstreamLow) }
    segs := s.segs.map Segment.tick
    session := s.session.map (fun x => { x with elapsed := countUp x.elapsed (x.limit * Config.idleStep) }) }

/-- One step: the command at the front of the queue is executed on the part with the rest of the queue; on an empty
queue 1 ms passes (log entry 2). -/
def step (s : State) : Host.Outcome State Fault Refusal :=
  match s.pending with
  | [] => .next s.tick
  | c :: rest => exec c { s with pending := rest }

/-- The state with the command that a word spells put at the front of the queue; unchanged where it spells none, as
no word does by this part's table. -/
def State.withFetchWord (s : State) (nbits w : Nat) : State :=
  match decodeTableWord nbits w with
  | some i => { s with pending := i :: s.pending }
  | none => s

end Sys2Proof.Machine
end

