-- ==== Sys2Proof/Safety.lean ====
section
/-! DEFINITION. The words of the statements: what a management write needs and leaves, and the laws of the manual as
properties of a state. -/

namespace Sys2Proof.Safety

open Sys2Proof.Machine

/-! ### A management write -/

/-- Checks 3 and 4 of R176 hold: without a check byte none is required; with one it is the CRC of R177. -/
def CheckHolds (s : State) (code tag : Byte) (check : Option Byte) (args : List Byte) : Prop :=
  match check with
  | none => s.config.checkRequired = false
  | some crc => crc = crc8 (addressByteOf s.mgmtAddr false :: (code ||| 0x80) :: tag :: args)

/-- The part runs, its port is IDLE, and the frame of this command passes the frame checks: the write can be sent whole
and reaches the command (R58, R176). -/
def Takes (s : State) (code tag : Byte) (check : Option Byte) (args : List Byte) : Prop :=
  s.inReset = false ∧ s.port.state = .idle ∧ CheckHolds s code tag check args

/-- The state after a management write that only answers: the response written, the port IDLE, all else as it was. -/
def answered (s : State) (status : Status) (tag : Byte) (data : List Byte) : State :=
  { s with port := Port.idle, resp := { status := status, tag := tag, data := data } }

/-- The idle timer of the open session restarted from 0 (R33). -/
def restarted (s : State) (x : Session) : State := { s with session := some { x with elapsed := 0 } }

/-- One owner after a raise of the flag at a bit: a clear flag becomes set and the stamp rises by 1 (R162). -/
def raised (o : Owner) (bit : Nat) : Owner :=
  if o.flags.getLsbD bit then o else { flags := o.flags ||| BitVec.ofNat 16 (2 ^ bit), stamp := o.stamp + 1 }

/-- The numbers of argument bytes that the catalogue of R191 lets a command code take, or none for a code outside it. For
EDIT_STAGE the number depends on the third argument byte, and fewer than three bytes carry none (R176). -/
def argumentCounts (code : Byte) (args : List Byte) : Option (List Nat) :=
  if code.toNat ∈ [0x01, 0x02, 0x10, 0x40] then some [0]
  else if code.toNat ∈ [0x0F, 0x13, 0x14, 0x15, 0x18, 0x19, 0x1A, 0x20, 0x31, 0x32, 0x33, 0x34, 0x35] then some [1]
  else if code.toNat ∈ [0x12, 0x21, 0x22, 0x41] then some [2]
  else if code.toNat = 0x42 then some [5]
  else if code.toNat = 0x30 then some [6]
  else if code.toNat = 0x03 then some [7]
  else if code.toNat = 0x11 then
    match args with
    | _ :: _ :: action :: _ =>
      if action = 1 ∨ action = 2 then some [10] else if action = 3 then some [4] else some [10, 4]
    | _ => some []
  else none

/-- The fields of a route record that the checks of R37 refuse, as field codes in their order, from the bytes of an
EDIT_STAGE: VIRTUAL, TARGET, ACCESS, CHECK_MODE, MAX_LENGTH, FAULT_LIMIT (R195, R199). -/
def fieldFailures (mgmtAddr : Addr7) (flags high low target maxLen faultLimit : Byte) : List Byte :=
  let address := high.toNat * 256 + low.toNat
  let mode := flags.toNat / 4 % 4
  [ (decide (0x3FF < address) || (decide (flags < 0x80) &&
      (decide (address < 0x08) || decide (0x77 < address) || decide (address = mgmtAddr.toNat))), 0x03),
    (decide (target.toNat < 0x08) || decide (0x77 < target.toNat), 0x04),
    (decide (flags.toNat / 32 % 4 = 3), 0x05),
    (decide (mode = 3) || (decide (mode ≠ 0) && decide (flags.toNat / 16 % 2 = 0)), 0x06),
    (decide (maxLen = 0) || decide (0x20 < maxLen.toNat), 0x07),
    (decide (faultLimit = 0) || decide (0x0F < faultLimit.toNat), 0x08) ].filterMap
      fun (p : Bool × Byte) => if p.1 then some p.2 else none

/-- The action that the bytes of an EDIT_STAGE stage when no check of R37 refuses them (R195). -/
def stagedAction (mgmtAddr : Addr7) (action : Byte) (entry : List Byte) : Option Action :=
  match entry with
  | [f, h, l, g, t, n, q] =>
    if fieldFailures mgmtAddr f h l t n q ≠ [] then none
    else
      let r : RouteRecord :=
        { key := { form := if f < 0x80 then .seven else .ten, addr := BitVec.ofNat 10 (h.toNat * 256 + l.toNat) }
          seg := [Seg.a, .b, .c, .d].getD (g.toNat % 4) .a
          target := BitVec.ofNat 7 t.toNat
          access := [Access.readWrite, .readOnly].getD (f.toNat / 32 % 4) .writeOnly
          mode := if f.toNat / 16 % 2 = 1 then .posted else .cutThrough
          check := [CheckMode.off, .verify].getD (f.toNat / 4 % 4) .verifyRegen
          maxLen := n.toNat, faultLimit := q.toNat, autoRevive := f.toNat / 2 % 2 = 1 }
      if action = 1 then some (.create r (f.toNat % 2 = 1))
      else if action = 2 then some (.modify r (f.toNat % 2 = 1)) else none
  | [d] => if action = 3 then (if d = 0 then some (.retire .drain) else if d = 1 then some (.retire .discard) else none)
           else none
  | _ => none

/-! ### The upstream port and the routed transaction -/

/-- The port at a falling edge of upstream SCL: the upstream-low timer starts from 0, but in IDLE, in NOT_ADDRESSED and
while the part stretches it is stopped (R73; log entry 4). -/
def clockFell (p : Port) : Port :=
  { p with low := if p.state = .idle ∨ p.state = .notAddressed ∨ p.stretch.isSome then none else some 0 }

/-- The transaction of a segment after a byte on its lines: in OWNED the low-limit timer starts from 0, and is stopped
while the part holds SCL, at a byte boundary or before the acknowledge bit of a read byte (R135; log entry 4). -/
def onLines (x : Segment) (d : Down) : Segment :=
  { x with
    down := some d
    low := if x.state ≠ .owned then x.low else if d.pos = .boundary ∨ d.pos = .readAck then none else some 0 }

/-- The transaction of a segment changed with no byte on its lines: in OWNED the low-limit timer runs on, starts from 0
when the part lets SCL go, and is stopped while the part holds it (R135; log entry 4). -/
def redriven (x : Segment) (change : Down → Down) : Segment :=
  { x with
    down := x.down.map change
    low := if x.state ≠ .owned then x.low
      else match x.down with
        | none => none
        | some d =>
          if (change d).pos = .boundary ∨ (change d).pos = .readAck then none
          else match x.low with
            | some t => some t
            | none => some 0 }

/-- The port in NOT_ADDRESSED with an answer on upstream SDA and a 10-bit memory. -/
def unaddressed (ten : Option TenMemory) (out : UpOut) : Port :=
  { Port.idle with state := .notAddressed, ten := ten, out := out }

/-- The upstream side of the routed transaction ended with an outcome, unless a final one is taken already: the stage is
TAIL and the segment ends the transaction at its next byte boundary (R86, R94, R132). -/
def endedWith (s : State) (t : Txn) (k : OutcomeKind) (final : Bool) : State :=
  { s.setSeg t.seg (redriven (s.seg t.seg) Down.endAtBoundary) with
    txn := some { t with
      stage := .tail
      taken := if t.taken.any Taken.final then t.taken else some { kind := k, final := final } } }

/-- The upstream side ended normally: COMPLETE, or WRITE_REFUSED with the refused mark set, provisional (R94). -/
def endedNormally (s : State) (t : Txn) : State :=
  endedWith s t (if t.refused then .writeRefused else .complete) false

/-- The frame in the fill position back in the free pool (R98, R101). -/
def fillReturned (s : State) (p : Fill) : State := { s.setFrame p.frame Frame.empty with fill := none }

/-- The compound frame of a transaction, if it still has one, back in the free pool with FRAME_DROPPED on its slot (R80,
R92). -/
def compoundLost (s : State) (t : Txn) : State :=
  match t.frame, s.fill with
  | none, _ => s
  | some _, none => s.raiseSlot t.slot .frameDropped
  | some _, some p => (fillReturned s p).raiseSlot t.slot .frameDropped

/-- The routed transaction ended: record and claim removed and the outcome reported (R18, R77, R80). -/
def reported (s : State) (t : Txn) (k : OutcomeKind) : State :=
  State.report { s.setSeg t.seg { s.seg t.seg with claim := none } with txn := none } t.slot t.seg k false

/-- The port of a routed transaction that ends on the segment's side: left as it is in TAIL, rid of the held phase in
PAUSED, and otherwise given NACK, or FFh at a read byte (R71, R72; log entry 27). -/
def portEndedUnder (s : State) (t : Txn) : Port :=
  if t.stage = .tail then s.port
  else if t.stage = .paused then { s.port with held := none }
  else if s.port.state = .routedRead then unaddressed s.port.ten (.byte 0xFF)
  else unaddressed (if (s.port.wait.bind Wait.ten).isSome then none else s.port.ten) .nack

/-- A segment's queue without the frames of one slot, the others in order; the head loss count is 0 when the head was one
of them (R115). -/
def withoutFramesOf (s : State) (i : SlotId) (x : Segment) : Segment :=
  { x with
    queue := x.queue.filter fun f => decide ((s.frame f).owner ≠ some i)
    headLoss := if x.queue.head?.any fun f => decide ((s.frame f).owner = some i) then 0 else x.headLoss }

/-- The first of checks 1 to 3 of R61 that a slot's current record fails for a direction, as the flag it raises. -/
def routedCheck (s : State) (i : SlotId) (r : RouteRecord) (read : Bool) : Option SlotFlag :=
  if ¬ ((s.slot i).state = .live ∧ (s.slot i).pend = none) then some .refused
  else if r.access = (if read then Access.writeOnly else Access.readOnly) then some .accessDenied
  else if (s.seg r.seg).state = .idle ∨ (s.seg r.seg).state = .external ∨ (s.seg r.seg).state = .owned then none
  else some .segmentDown

/-- The port that withholds an address acknowledge with a new stretch (R62, R63, R70). -/
def withholding (s : State) (hand : Option SlotId) (w : Wait) : Port :=
  { Port.idle with state := .address, hand := hand, ten := s.port.ten, repeated := s.port.repeated, wait := some w,
                   stretch := some { elapsed := 0, limit := s.config.hold } }

/-- A claim placed for a slot: the transaction record in stage WAITING, the routed claim at the arbiter with loss count
0, and the arbiter's run; or, while an outcome is owed, the address phase deferred (R62, R63, R78). -/
def claimed (s : State) (r : RouteRecord) (w : Wait) (frame : Option FrameId) : State :=
  if s.txn.isSome then { s with port := withholding s none { w with deferred := true } }
  else
    ({ s.setSeg r.seg { s.seg r.seg with claim := some { slot := w.slot, read := w.read, loss := 0 } } with
      port := withholding s (some w.slot) { w with deferred := false }
      txn := some { slot := w.slot, seg := r.seg, stage := .waiting, answered := false, refused := false,
                    phaseRefused := false, count := 0, frame := frame, taken := none } }).arbitrate r.seg

/-! ### Laws of the manual -/

/-- L8: at most 16 entries, at most one for a slot, and none while no session is open (R36). -/
def StagingLaw (s : State) : Prop :=
  s.staging.length ≤ 16 ∧ (s.staging.map Entry.slot).Nodup ∧ (s.session = none → s.staging = [])

/-- R161, R192: no flag of an owner stands above the last flag of its kind. -/
def FlagsInRange (s : State) : Prop :=
  s.att.device.flags >>> deviceFlagCount = 0
    ∧ (∀ i, (s.slotOwner i).flags >>> slotFlagCount = 0)
    ∧ (∀ g, (s.segOwner g).flags >>> segFlagCount = 0)

/-- R183: the hold limit is 1 to 50 ms and the edit idle limit 1 to 255 steps. -/
def ConfigInRange (c : DeviceConfig) : Prop := 1 ≤ c.hold ∧ c.hold ≤ 50 ∧ 1 ≤ c.idle ∧ c.idle ≤ 255

/-- R122: the low limit of a segment configuration is 10 to 40 ms, the retry count at most 3, and the alert-identify
address 00h or a device address. -/
def SegConfigInRange (c : SegConfig) : Prop :=
  10 ≤ c.lowLimit ∧ c.lowLimit ≤ 40 ∧ c.retry ≤ 3 ∧ (c.alertAddr = 0 ∨ isTarget c.alertAddr = true)

/-- R122 for the active and the held configuration of every segment. -/
def SegConfigsInRange (s : State) : Prop :=
  ∀ g, SegConfigInRange (s.seg g).cfg ∧ ∀ c, (s.seg g).next = some c → SegConfigInRange c

/-- R2, R3: the limits and combinations that every route record satisfies. -/
def RecordValid (mgmtAddr : Addr7) (r : RouteRecord) : Prop :=
  keyAllowed mgmtAddr r.key = true ∧ isTarget r.target = true ∧ (r.check ≠ .off → r.mode = .posted)
    ∧ 1 ≤ r.maxLen ∧ r.maxLen ≤ 32 ∧ 1 ≤ r.faultLimit ∧ r.faultLimit ≤ 15

/-- The records whose keys and pairs a slot claims: its current record and its pending route record (R4). -/
def claimedRecords (x : Slot) : List RouteRecord :=
  x.cur.toList ++ (match x.pend with
    | some (.modify r) => [r]
    | _ => [])

/-- L1 and L2: no key and no (segment, target) pair is claimed by two slots (R4). -/
def ClaimsDistinct (s : State) : Prop :=
  ∀ i j, i ≠ j → ∀ r ∈ claimedRecords (s.slot i), ∀ q ∈ claimedRecords (s.slot j),
    r.key ≠ q.key ∧ ¬ (r.seg = q.seg ∧ r.target = q.target)

/-- R1: a slot has a current record in every state except FREE, and a FREE slot has no pending record. -/
def SlotShapes (s : State) : Prop :=
  ∀ i, ((s.slot i).state = .free ↔ (s.slot i).cur = none) ∧ ((s.slot i).state = .free → (s.slot i).pend = none)

/-- R2 for every record of the table and of the staging list. -/
def RecordsValid (s : State) : Prop :=
  (∀ i, ∀ r ∈ claimedRecords (s.slot i), RecordValid s.mgmtAddr r)
    ∧ (∀ e ∈ s.staging, ∀ r, e.action.record = some r → RecordValid s.mgmtAddr r)

/-- L7: consecutive faults never exceed the fault limit of the current record, and equal it only in QUARANTINED, in
DRAINING or with a pending record (R20). -/
def FaultLaw (s : State) : Prop :=
  ∀ i r, (s.slot i).cur = some r → (s.slot i).faults ≤ r.faultLimit
    ∧ ((s.slot i).faults = r.faultLimit →
        (s.slot i).state = .quarantined ∨ (s.slot i).state = .draining ∨ (s.slot i).pend.isSome)

/-- L3 and L4: a frame stands in one queue at most once, in no two queues, and in no queue while it is in the fill
position; a queue with the place of a fill for its segment holds at most 8 (R98, R100). -/
def FramePlaces (s : State) : Prop :=
  (∀ g, (s.seg g).queue.Nodup)
    ∧ (∀ g h, g ≠ h → ∀ f ∈ (s.seg g).queue, f ∉ (s.seg h).queue)
    ∧ (∀ p, s.fill = some p → ∀ g, p.frame ∉ (s.seg g).queue)
    ∧ (∀ g, (s.seg g).queue.length + (if s.fill.any (fun p => p.seg = g) then 1 else 0) ≤ 8)

/-- L5: every frame in a segment's queue belongs to a slot that is not FREE and whose current record names that segment
(R107). -/
def QueuesOwned (s : State) : Prop :=
  ∀ g, ∀ f ∈ (s.seg g).queue, ∃ i r, (s.frame f).owner = some i ∧ (s.slot i).state ≠ .free
    ∧ (s.slot i).cur = some r ∧ r.seg = g

/-- L6: a slot holds a pending record only while its marker is not NONE or it has a queued frame (R11). -/
def PendingOnlyWhileBusy (s : State) : Prop :=
  ∀ i, (s.slot i).pend.isSome → s.marker i ≠ .none ∨ s.queued i ≠ 0

/-- L12: a slot in DRAINING has a marker other than NONE or a queued frame (R16). -/
def DrainingOnlyWhileBusy (s : State) : Prop :=
  ∀ i, (s.slot i).state = .draining → s.marker i ≠ .none ∨ s.queued i ≠ 0

/-- L10: a segment in DISABLED or FAULTED has an empty queue, no reservation, no transaction of the part but what a soft
reset left on its lines (log entry 10), no discovery cursor, and UNKNOWN for every address (R126). -/
def OutOfServiceIsEmpty (s : State) : Prop :=
  ∀ g, (s.seg g).state = .disabled ∨ (s.seg g).state = .faulted →
    (s.seg g).queue = [] ∧ s.reserved g = 0 ∧ (∀ d, (s.seg g).down = some d → d.detached = true)
      ∧ (s.seg g).cursor = none ∧ (s.seg g).presence = Vector.replicate 112 .unknown

/-- L9: a segment carries a transaction of the part only in OWNED, one at a time as the state holds it; a routed one on
any segment is that of the part's one transaction record, granted there, so no two segments carry one. The delivered
frame stands in the segment's queue, and SCL is held only in a routed transaction. The record's slot has the segment in
its current record, and a routed claim is the record's own (R63, R77, R78, R110, R131). What a soft reset has detached
is no transaction of a slot any more. -/
def OneTransaction (s : State) : Prop :=
  (∀ g d, (s.seg g).down = some d → d.detached = false →
    (s.seg g).state = .owned
      ∧ (∀ frameOut, d.work = .routed frameOut → ∃ t, s.txn = some t ∧ t.seg = g ∧ t.stage ≠ .waiting)
      ∧ (∀ f k acked, d.work = .delivery f k acked → f ∈ (s.seg g).queue)
      ∧ (d.pos = .boundary ∨ d.pos = .readAck → ∃ frameOut, d.work = .routed frameOut))
    ∧ (∀ t, s.txn = some t → ∃ r, (s.slot t.slot).cur = some r ∧ r.seg = t.seg)
    ∧ (∀ g, (s.seg g).claim.isSome → ∃ t, s.txn = some t ∧ t.seg = g)

/-- The fill position holds the open fill of a slot that has no pending record and is LIVE, HELD or QUARANTINED, and its
frame is orphaned or meant for the segment of the slot's current record (R23, R100, R103). -/
def FillOpenFor (s : State) (i : SlotId) : Prop :=
  ∃ p r, s.fill = some p ∧ (s.frame p.frame).owner = some i ∧ (s.slot i).pend = none
    ∧ ((s.slot i).state = .live ∨ (s.slot i).state = .held ∨ (s.slot i).state = .quarantined)
    ∧ (s.slot i).cur = some r ∧ ((s.frame p.frame).orphan = true ∨ r.seg = p.seg)

/-- The port and the fill position agree: a fill in progress or held is the open fill of its slot, and then no compound
frame stands there; the compound frame of the transaction record is the frame of the fill position, and so is that of a
deferred compound read, never both; a phase is held only in ADDRESS and TEN_FIRST, and not beside a withheld
acknowledge, which is given in ADDRESS (R62, R69, R90, R98, R100). -/
def PortAndFillAgree (s : State) : Prop :=
  (s.port.state = .postedFill → ∃ i, s.port.hand = some i ∧ FillOpenFor s i)
    ∧ (∀ h, s.port.held = some h → (s.port.state = .address ∨ s.port.state = .tenFirst) ∧ s.port.wait = none
        ∧ (h.kind = .fill → FillOpenFor s h.slot))
    ∧ (s.port.wait.isSome → s.port.state = .address)
    ∧ (∀ t f, s.txn = some t → t.frame = some f →
        (∃ p, s.fill = some p ∧ p.frame = f) ∧ s.port.state ≠ .postedFill
          ∧ (∀ h, s.port.held = some h → h.kind ≠ .fill)
          ∧ (∀ w, s.port.wait = some w → w.deferred = true → w.compound = false))

/-- L5, L6, L9, L10 and L12 with what ties them to the port and the fill position. -/
def PartLaws (s : State) : Prop :=
  QueuesOwned s ∧ PendingOnlyWhileBusy s ∧ OneTransaction s ∧ OutOfServiceIsEmpty s ∧ DrainingOnlyWhileBusy s
    ∧ PortAndFillAgree s

/-- Each timer stands below its limit, and runs only where its rule lets it: the upstream-low timer in every port state
but IDLE and NOT_ADDRESSED, while the part does not stretch (R73); the bus-free timer in EXTERNAL (R128); the low-limit
timer in EXTERNAL, OWNED and RECOVERING (R135; log entry 4); the stretch timer below the hold limit it took (R70) and the
idle timer below the limit of its session (R34). -/
def TimersRun (s : State) : Prop :=
  (s.port.low.isSome ↔ s.port.state ≠ .idle ∧ s.port.state ≠ .notAddressed ∧ s.port.stretch = none)
    ∧ (∀ n, s.port.low = some n → n < 45)
    ∧ (∀ x, s.port.stretch = some x → x.elapsed < x.limit)
    ∧ (∀ x, s.session = some x → x.elapsed < x.limit * 100)
    ∧ (∀ g n, (s.seg g).busFree = some n → n < 50 ∧ (s.seg g).state = .external)
    ∧ (∀ g n, (s.seg g).low = some n → n < (s.seg g).cfg.lowLimit
        ∧ ((s.seg g).state = .external ∨ (s.seg g).state = .owned ∨ (s.seg g).state = .recovering))

/-- A state that has not stopped: the part has no fault and no refusal, so every run is one (R204 gives the only way
in which all work is lost, and it is a next state). -/
def Runs (o : Host.Outcome State Fault Refusal) : Prop := ∃ t, o = .next t

/-- The commands run one after another, from left to right; the first stop ends the run. -/
def runAll : List Instr → State → Host.Outcome State Fault Refusal
  | [], s => .next s
  | c :: rest, s =>
    match exec c s with
    | .next t => runAll rest t
    | .fault r => .fault r
    | .refused r => .refused r

end Sys2Proof.Safety
end

