-- ==== Sys2Proof/Certificates/Slice0/Obligations.lean ====
section
/-! DEFINITION. The statements for the provers: what each row does, as the rules of the manual give it, and the laws
that every step keeps. -/

section Statements

open Sys2Proof Sys2Proof.Machine Sys2Proof.Safety

/-! ### The machine -/

/-- A step runs the command at the front of the queue on the part with the rest of the queue. With no command waiting
1 ms passes: each timer that runs, the stretch timer, the upstream-low timer of 45 ms, the idle timer, and on each segment
the bus-free timer of 50 µs and the low-limit timer, rises below its limit, and nothing else changes (R34, R70, R73, R128,
R135). The queue, and that 1 ms is the step of an empty one, are the model's own (log entries 1, 2 and 4). -/
def Obligations.StepRunsFrontCommand : Prop :=
  (∀ (c : Instr) (rest : List Instr) (s : State),
    step { s with pending := c :: rest } = exec c { s with pending := rest })
  ∧ ∀ s : State, s.pending = [] →
    let rises := fun (n limit : Nat) => if n + 1 < limit then n + 1 else n
    let aged := fun (x : Segment) => { x with
      busFree := x.busFree.map fun _ => 49
      low := x.low.map fun n => rises n x.cfg.lowLimit }
    step s = .next { s with
      port := { s.port with
        stretch := s.port.stretch.map fun t => { t with elapsed := rises t.elapsed t.limit }
        low := s.port.low.map fun n => rises n 45 }
      segs := ⟨aged (s.seg .a), aged (s.seg .b), aged (s.seg .c), aged (s.seg .d)⟩
      session := s.session.map fun x =>
        { x with elapsed := if x.elapsed + 1 < x.limit * 100 then x.elapsed + 1 else x.elapsed } }

/-- Every command answers a next state in every state, and leaves the waiting commands as they are. That a command out
of place answers the state unchanged, that no state stops the model, one that no run reaches included, and that the part
has a queue of commands at all, which a command does not touch, are the model's own choices (log entries 1, 26 and
36). -/
def Obligations.EveryCommandRunsAndKeepsQueue : Prop :=
  ∀ (c : Instr) (s : State), ∃ t, exec c s = .next t ∧ t.pending = s.pending

/-! ### Reset -/

/-- The values after device reset (R26, R31, R56, R77, R99, R121, R170, R179, R183). The management address and the
levels of the alert lines are the model's choice (log entry 6). -/
def Obligations.ResetValues : Prop :=
  State.reset.inReset = false ∧ State.reset.txn = none
    ∧ State.reset.port =
      { state := .idle, hand := none, held := none, ten := none, upper := 0, repeated := false, asm := [],
        overlong := false, send := [], wait := none, stretch := none, firstByte := false, low := none, out := .released }
    ∧ (∀ i, State.reset.slot i = { state := .free, cur := none, pend := none, faults := 0, completed := 0 })
    ∧ State.reset.session = none ∧ State.reset.staging = [] ∧ State.reset.tokenCounter = 0
    ∧ (∀ f, State.reset.frame f = { bytes := [], owner := none, overlong := false, verified := false, orphan := false })
    ∧ State.reset.fill = none
    ∧ (∀ g, State.reset.seg g = Segment.reset false)
    ∧ (∀ level, Segment.reset level =
        { state := .disabled, down := none, next := none, claim := none, fair := 0, attempt := 0, pulses := 0,
          busFree := none, low := none, queue := [], headLoss := 0, presence := Vector.replicate 112 .unknown,
          cursor := none, alertLow := level, idCount := 0,
          cfg := { enable := false, speed := .khz100, lowLimit := 30, retry := 1, alertAddr := 0 } })
    ∧ State.reset.att.device = { flags := 1, stamp := 1 }
    ∧ (∀ i, State.reset.slotOwner i = { flags := 0, stamp := 0 })
    ∧ (∀ g, State.reset.segOwner g = { flags := 0, stamp := 0 } ∧ State.reset.att.unrouted.get g = none)
    ∧ State.reset.resp = { status := .resetDone, tag := 0, data := [] }
    ∧ State.reset.config = { hold := 25, idle := 20, checkRequired := false, mask := 0 }
    ∧ State.reset.alertDrivenLow = true

/-- Device reset begins: all work is lost at once, every block takes its reset value, no flag is set and ALERT_N is
released; the strapped address and the alert lines stand. It begins once (R121, R170, R203, R204). Device reset ends:
the management address is 5Ch plus ADR1:ADR0, every block has its reset value, RESET_OCCURRED is set with the device
stamp at 01h and the response is RESET_DONE (R170, R179, R204, R205). Without a device reset there is none to end (log
entry 1). While device reset lasts nothing but its end and the alert lines changes the part, and a fall or a rise of an
alert line is its level alone (R203, R204; log entry 21). -/
def Obligations.DeviceResetBeginsAndEnds : Prop :=
  (∀ s : State,
     (s.inReset = true → exec .deviceReset s = .next s)
     ∧ (s.inReset = false → ∃ t, exec .deviceReset s = .next t ∧ t.alertDrivenLow = false
         ∧ t = { State.reset with
           inReset := true
           mgmtAddr := s.mgmtAddr
           att := Attention.clear
           segs := ⟨Segment.reset (s.seg .a).alertLow, Segment.reset (s.seg .b).alertLow,
             Segment.reset (s.seg .c).alertLow, Segment.reset (s.seg .d).alertLow⟩
           pending := s.pending }))
  ∧ (∀ (s : State) (adr1 adr0 : Bool),
       (s.inReset = false → exec (.deviceResetEnd adr1 adr0) s = .next s)
       ∧ (s.inReset = true → exec (.deviceResetEnd adr1 adr0) s = .next { State.reset with
           mgmtAddr := BitVec.ofNat 7 (0x5C + 2 * adr1.toNat + adr0.toNat)
           segs := ⟨Segment.reset (s.seg .a).alertLow, Segment.reset (s.seg .b).alertLow,
             Segment.reset (s.seg .c).alertLow, Segment.reset (s.seg .d).alertLow⟩
           pending := s.pending }))
  ∧ (∀ (c : Instr) (s : State), s.inReset = true → (∀ x y, c ≠ .deviceResetEnd x y) →
       (∀ g, c ≠ .segmentAlertFall g ∧ c ≠ .segmentAlertRise g) → exec c s = .next s)
  ∧ (∀ (s : State) (g : Seg), s.inReset = true →
       exec (.segmentAlertFall g) s = .next (s.setSeg g { s.seg g with alertLow := true })
       ∧ exec (.segmentAlertRise g) s = .next (s.setSeg g { s.seg g with alertLow := false }))

/-! ### The management protocol -/

/-- A management row is the management write it stands for: START, the management address with W, the bytes of the
frame, and STOP (R58, R59, R68, R174, R175; log entry 3). -/
def Obligations.ManagementRowIsItsByteWrite : Prop :=
  ∀ (c : Instr) (frame : List Byte) (s : State), c.frame? = some frame → c.wellFormed = true →
    s.inReset = false → s.port = Port.idle → 0x5C ≤ s.mgmtAddr → s.mgmtAddr ≤ 0x5F →
    exec c s = runAll (.start :: .addressByte s.mgmtAddr false :: (frame.map .mgmtWriteByte ++ [.stop])) s

/-- MGMT_WRITE_BYTE and MGMT_READ_BYTE: a write byte is stored and ACKed below 24 bytes, else NACKed with the overlong
mark; a read byte is the next of the response or FFh past its end, and a NACK ends the sending (R55, R59, R60). The
upstream-low timer starts from 0 at the byte boundary (R73; log entry 4). In another port state the row does not occur
and has no effect (log entry 1). -/
def Obligations.ManagementBytes : Prop :=
  ∀ (s : State), s.inReset = false →
    (∀ b, s.port.state = .mgmtWrite →
      exec (.mgmtWriteByte b) s = .next { s with
        port := clockFell (if s.port.asm.length < 24 then { s.port with asm := s.port.asm ++ [b], out := .ack }
          else { s.port with overlong := true, out := .nack }) })
    ∧ (∀ b, s.port.state ≠ .mgmtWrite → exec (.mgmtWriteByte b) s = .next s)
    ∧ (∀ b rest ack, s.port.state = .mgmtRead → s.port.send = b :: rest →
      exec (.mgmtReadByte ack) s = .next { s with
        port := clockFell { s.port with send := if ack then rest else [], out := .byte b } })
    ∧ (∀ ack, s.port.state = .mgmtRead → s.port.send = [] →
      exec (.mgmtReadByte ack) s = .next { s with port := clockFell { s.port with out := .byte 0xFF } })
    ∧ (∀ ack, s.port.state ≠ .mgmtRead → exec (.mgmtReadByte ack) s = .next s)

/-- The frame checks of a management write that ends at STOP, in their order: overlong, too short, wrong check byte,
check required, code outside the catalogue, wrong number of arguments. Each refusal answers with the tag and no data and
changes nothing else (R176, R177, R191). A write without data bytes executes nothing (R59). -/
def Obligations.FrameChecksInOrder : Prop :=
  ∀ (s : State), s.inReset = false → s.port.state = .mgmtWrite → s.port.stretch = none →
    let frame := s.port.asm
    let checked := frame.head?.any (fun b => 0x80 ≤ b)
    let tag := frame[1]?.getD 0
    let args := if checked then (frame.drop 2).dropLast else frame.drop 2
    let code := (frame.head?.getD 0) &&& 0x7F
    let right := frame.getLast? = some (crc8 (addressByteOf s.mgmtAddr false :: frame.dropLast))
    (frame = [] → s.port.overlong = false → exec .stop s = .next { s with port := Port.idle })
    ∧ (s.port.overlong = true → exec .stop s = .next (answered s .badLength tag []))
    ∧ (s.port.overlong = false → frame ≠ [] → frame.length < (if checked then 3 else 2) →
        exec .stop s = .next (answered s .badLength tag []))
    ∧ (s.port.overlong = false → (if checked then 3 else 2) ≤ frame.length →
        (checked = true → ¬ right → exec .stop s = .next (answered s .badCheck tag []))
        ∧ (checked = false → s.config.checkRequired = true → exec .stop s = .next (answered s .badCheck tag []))
        ∧ ((checked = true → right) → (checked = false → s.config.checkRequired = false) →
            (argumentCounts code args = none → exec .stop s = .next (answered s .badCommand tag []))
            ∧ (∀ counts, argumentCounts code args = some counts → args.length ∉ counts →
                exec .stop s = .next (answered s .badLength tag []))))

/-! ### The device commands -/

/-- DEVICE_IDENT answers the part code 4616h, the revision letter and the management address, and changes nothing
(R186). The revision letter is a value the manual does not give (log entry 7). DEVICE_CONFIG_READ answers the four
fields as held and changes nothing (R184). -/
def Obligations.DeviceIdentAndConfigReadAnswer : Prop :=
  (∀ (tag : Byte) (check : Option Byte) (s : State), Takes s 0x01 tag check [] →
     exec (.deviceIdent tag check) s =
       .next (answered s .ok tag [0x46, 0x16, Config.revision, BitVec.ofNat 8 s.mgmtAddr.toNat]))
  ∧ (∀ (tag : Byte) (check : Option Byte) (s : State), Takes s 0x02 tag check [] →
       exec (.deviceConfigRead tag check) s =
         .next (answered s .ok tag [BitVec.ofNat 8 s.config.hold, BitVec.ofNat 8 s.config.idle,
           if s.config.checkRequired then 1 else 0, BitVec.ofNat 8 (s.config.mask.toNat / 0x1000000),
           BitVec.ofNat 8 (s.config.mask.toNat / 0x10000), BitVec.ofNat 8 (s.config.mask.toNat / 0x100),
           BitVec.ofNat 8 s.config.mask.toNat]))

/-- DEVICE_CONFIG_WRITE checks its four fields in order and names the first that fails; when all pass it replaces the
four together and answers with them (R185, R199). -/
def Obligations.DeviceConfigWriteChecksThenReplaces : Prop :=
  ∀ (tag : Byte) (check : Option Byte) (h i r m3 m2 m1 m0 : Byte) (s : State),
    Takes s 0x03 tag check [h, i, r, m3, m2, m1, m0] →
    exec (.deviceConfigWrite tag check h i r m3 m2 m1 m0) s = .next
      (if h = 0 ∨ 50 < h.toNat then answered s .badArgument tag [0x10]
      else if i = 0 then answered s .badArgument tag [0x11]
      else if 1 < r.toNat then answered s .badArgument tag [0x12]
      else if 0x0F < m3.toNat then answered s .badArgument tag [0x13]
      else answered { s with config := { hold := h.toNat, idle := i.toNat, checkRequired := r = 1,
                                         mask := m3 ++ m2 ++ m1 ++ m0 } } .ok tag [h, i, r, m3, m2, m1, m0])

/-- SOFT_RESET ROUTES: every slot FREE, the session closed with its list, every frame returned, the transaction record
and every routed claim gone, deliveries and routed transactions detached to end at the next byte boundary, slot flags
cleared with their stamps kept, TABLE_CLEARED raised, RESET_DONE with scope 00h; all else kept (R187, R188). SOFT_RESET
ALL: every block at its value after device reset, but the strapped address, the alert levels and, on the lines of each
segment, a transaction that ends at its next byte boundary; RESET_DONE with the tag and scope 01h (R187, R189). That every
frame is back in the pool at the execution, the frame of a delivery in progress too, and not only after its STOP (R115,
R118), is log entry 9; what is left of a transaction after SOFT_RESET ALL is log entry 10. -/
def Obligations.SoftResets : Prop :=
  (∀ (tag : Byte) (check : Option Byte) (s : State), Takes s 0x0F tag check [0x00] →
     ∃ t, exec (.softResetRoutes tag check) s = .next t
       ∧ (∀ i, t.slot i = Slot.free ∧ t.slotOwner i = { s.slotOwner i with flags := 0 })
       ∧ (∀ f, t.frame f = Frame.empty) ∧ t.fill = none ∧ t.txn = none
       ∧ t.session = none ∧ t.staging = [] ∧ t.tokenCounter = s.tokenCounter
       ∧ (∀ g, t.seg g = { s.seg g with
           queue := [], headLoss := 0, claim := none
           down := (s.seg g).down.map fun d =>
             match d.work with
             | .routed _ | .delivery _ _ _ => { d.endAtBoundary with detached := true }
             | .probe _ | .identify _ _ => d })
       ∧ (∀ g, t.segOwner g = s.segOwner g ∧ t.att.unrouted.get g = s.att.unrouted.get g)
       ∧ t.att.device = raised s.att.device 1
       ∧ t.config = s.config ∧ t.mgmtAddr = s.mgmtAddr ∧ t.inReset = false ∧ t.pending = s.pending
       ∧ t.port = Port.idle ∧ t.resp = { status := .resetDone, tag := tag, data := [0] })
  ∧ (∀ (tag : Byte) (check : Option Byte) (s : State), Takes s 0x0F tag check [0x01] →
       ∃ t, exec (.softResetAll tag check) s = .next t
         ∧ t = { State.reset with
             mgmtAddr := s.mgmtAddr, segs := t.segs, pending := s.pending
             resp := { status := .resetDone, tag := tag, data := [1] } }
         ∧ ∀ g, t.seg g = { Segment.reset (s.seg g).alertLow with
             down := (s.seg g).down.map fun d => { d.endAtBoundary with detached := true } })

/-! ### The edit session -/

/-- EDIT_OPEN with no session open: the token counter advances, 255 to 1, and is the session token; the list is emptied,
the idle limit copied and the timer 0. With a session open: SESSION_BUSY and nothing else (R32). -/
def Obligations.EditOpenOpensSession : Prop :=
  ∀ (tag : Byte) (check : Option Byte) (s : State), Takes s 0x10 tag check [] →
    (s.session = none →
      let token : Byte := if s.tokenCounter = 255 then 1 else s.tokenCounter + 1
      exec (.editOpen tag check) s = .next (answered { s with
        tokenCounter := token, staging := []
        session := some { token := token, limit := s.config.idle, elapsed := 0 } } .ok tag
        [token, BitVec.ofNat 8 s.config.idle]))
    ∧ (s.session.isSome → exec (.editOpen tag check) s = .next (answered s .sessionBusy tag []))

/-- The five commands that carry a token: NO_SESSION with no session, WRONG_TOKEN with another token, and with the
session token the command proceeds with the idle timer restarted, or closes the session (R33). -/
def Obligations.TokenDecides : Prop :=
  ∀ (tag : Byte) (check : Option Byte) (token slot action : Byte) (entry : List Byte) (c : Instr) (code : Byte)
    (args : List Byte) (s : State),
    (c, code, args) ∈ [(Instr.editStage tag check token slot action entry, (0x11 : Byte), token :: slot :: action :: entry),
      (.editUnstage tag check token slot, 0x12, [token, slot]), (.editList tag check token, 0x13, [token]),
      (.editCommit tag check token, 0x14, [token]), (.editAbandon tag check token, 0x15, [token])] →
    c.wellFormed = true → Takes s code tag check args →
    (s.session = none → exec c s = .next (answered s .noSession tag []))
    ∧ (∀ x, s.session = some x → x.token ≠ token → exec c s = .next (answered s .wrongToken tag []))
    ∧ (∀ x, s.session = some x → x.token = token →
        ∃ t, exec c s = .next t ∧ (t.session = some { x with elapsed := 0 } ∨ t.session = none))

/-- EDIT_EXPIRY: an open session closes, its list is discarded unapplied and EDIT_EXPIRED is raised; the token counter,
the table and the response buffer stay. With no session open the timer does not run (R34; log entry 1). EDIT_ABANDON
with the session token closes the session, discards the list, and answers the number of entries discarded; no flag is
raised and the table is untouched (R35). -/
def Obligations.EditSessionClosesUnapplied : Prop :=
  (∀ (s : State), s.inReset = false →
     (s.session.isSome → exec .editExpiry s = .next { s with
       session := none, staging := [], att := { s.att with device := raised s.att.device 2 } })
     ∧ (s.session = none → exec .editExpiry s = .next s))
  ∧ (∀ (tag : Byte) (check : Option Byte) (token : Byte) (s : State), Takes s 0x15 tag check [token] →
       (∀ x, s.session = some x → x.token = token → StagingLaw s →
         exec (.editAbandon tag check token) s =
           .next (answered { s with session := none, staging := [] } .ok tag [BitVec.ofNat 8 s.staging.length])
         ∧ s.staging.length ≤ 16)
       ∧ ((∀ x, s.session = some x → x.token ≠ token) →
         ∃ t, exec (.editAbandon tag check token) s = .next t ∧ t.session = s.session ∧ t.staging = s.staging))

/-- EDIT_STAGE with the session token and a slot byte above 63, an action code that is none of the three, or a wrong
drain choice: BAD_ARGUMENT naming the first of SLOT, ACTION and DRAIN that fails, with the timer restarted (R37, R199).
EDIT_STAGE of a CREATE or MODIFY whose record breaks a limit: BAD_ARGUMENT naming the first field of VIRTUAL, TARGET,
ACCESS, CHECK_MODE, MAX_LENGTH and FAULT_LIMIT that fails; the list is unchanged (R37, R195, R199). -/
def Obligations.EditStageChecksArguments : Prop :=
  (∀ (tag : Byte) (check : Option Byte) (token slot action : Byte) (entry : List Byte) (x : Session) (s : State),
     (Instr.editStage tag check token slot action entry).wellFormed = true →
     Takes s 0x11 tag check (token :: slot :: action :: entry) → s.session = some x → x.token = token →
     (63 < slot.toNat →
       exec (.editStage tag check token slot action entry) s = .next (answered (restarted s x) .badArgument tag [0x01]))
     ∧ (slot.toNat ≤ 63 → action ≠ 1 → action ≠ 2 → action ≠ 3 →
       exec (.editStage tag check token slot action entry) s = .next (answered (restarted s x) .badArgument tag [0x02]))
     ∧ (∀ d, slot.toNat ≤ 63 → action = 3 → entry = [d] → 1 < d.toNat →
       exec (.editStage tag check token slot action entry) s = .next (answered (restarted s x) .badArgument tag [0x09])))
  ∧ (∀ (tag : Byte) (check : Option Byte) (token slot action f h l g t n q : Byte) (x : Session) (s : State),
       Takes s 0x11 tag check [token, slot, action, f, h, l, g, t, n, q] → s.session = some x → x.token = token →
       slot.toNat ≤ 63 → (action = 1 ∨ action = 2) →
       ∀ code, (fieldFailures s.mgmtAddr f h l t n q).head? = some code →
         exec (.editStage tag check token slot action [f, h, l, g, t, n, q]) s =
           .next (answered (restarted s x) .badArgument tag [code]))

/-- EDIT_STAGE whose arguments pass: the entry takes the place of the slot's entry, or joins at the tail of a list of
fewer than 16, with its position and the length answered; a full list is answered STAGING_FULL and stays (R38). -/
def Obligations.EditStagePlacesEntry : Prop :=
  ∀ (tag : Byte) (check : Option Byte) (token : Byte) (i : SlotId) (actionCode : Byte) (entry : List Byte) (x : Session)
    (a : Action) (s : State), StagingLaw s →
    Takes s 0x11 tag check (token :: BitVec.ofNat 8 i.val :: actionCode :: entry) → s.session = some x → x.token = token →
    stagedAction s.mgmtAddr actionCode entry = some a →
    (∀ before old after, s.staging = before ++ old :: after → old.slot = i →
      exec (.editStage tag check token (BitVec.ofNat 8 i.val) actionCode entry) s =
        .next (answered { restarted s x with staging := before ++ { slot := i, action := a } :: after } .ok tag
          [BitVec.ofNat 8 before.length, BitVec.ofNat 8 s.staging.length]))
    ∧ ((∀ e ∈ s.staging, e.slot ≠ i) → s.staging.length < 16 →
      exec (.editStage tag check token (BitVec.ofNat 8 i.val) actionCode entry) s =
        .next (answered { restarted s x with staging := s.staging ++ [{ slot := i, action := a }] } .ok tag
          [BitVec.ofNat 8 s.staging.length, BitVec.ofNat 8 (s.staging.length + 1)]))
    ∧ ((∀ e ∈ s.staging, e.slot ≠ i) → s.staging.length = 16 →
      exec (.editStage tag check token (BitVec.ofNat 8 i.val) actionCode entry) s =
        .next (answered (restarted s x) .stagingFull tag []))

/-- EDIT_UNSTAGE with the session token: the entry of the slot is removed and those after it move up, with the length
answered; NOT_FOUND when there is none; BAD_ARGUMENT naming SLOT above 63. The timer restarts in each case (R40).
EDIT_LIST with the session token answers the number of entries and, in list order, the slot and the action code of each;
the list is unchanged, and the answer of a lawful list has at most 33 bytes (R41). -/
def Obligations.EditUnstageAndListOnTheList : Prop :=
  (∀ (tag : Byte) (check : Option Byte) (token slot : Byte) (x : Session) (s : State), StagingLaw s →
     Takes s 0x12 tag check [token, slot] → s.session = some x → x.token = token →
     (63 < slot.toNat →
       exec (.editUnstage tag check token slot) s = .next (answered (restarted s x) .badArgument tag [0x01]))
     ∧ (∀ before e after, s.staging = before ++ e :: after → slot = BitVec.ofNat 8 e.slot.val →
       exec (.editUnstage tag check token slot) s =
         .next (answered { restarted s x with staging := before ++ after } .ok tag
           [BitVec.ofNat 8 (before.length + after.length)]))
     ∧ (slot.toNat ≤ 63 → (∀ e ∈ s.staging, slot ≠ BitVec.ofNat 8 e.slot.val) →
       exec (.editUnstage tag check token slot) s = .next (answered (restarted s x) .notFound tag [])))
  ∧ (∀ (tag : Byte) (check : Option Byte) (token : Byte) (x : Session) (s : State), StagingLaw s →
       Takes s 0x13 tag check [token] → s.session = some x → x.token = token →
       let data := BitVec.ofNat 8 s.staging.length :: s.staging.flatMap fun e =>
         [BitVec.ofNat 8 e.slot.val, match e.action with
           | .create _ _ => 1
           | .modify _ _ => 2
           | .retire _ => 3]
       exec (.editList tag check token) s = .next (answered (restarted s x) .ok tag data) ∧ data.length ≤ 33)

/-! ### The commit -/

/-- The slot check of one entry, in every slot state: a CREATE passes on FREE, a MODIFY and a RETIRE pass on LIVE, HELD and
QUARANTINED with no pending retire, and each other case is refused with its reason (R43). The key and pair checks of a
CREATE or MODIFY whose slot check passes: KEY_IN_USE with another slot that claims the key, else with the slot of the first other entry that names
it; then TARGET_IN_USE in the same way; else the entry passes (R44, R45, R46). -/
def Obligations.CommitChecksOfOneEntry : Prop :=
  (∀ (s : State) (list : List Entry) (e : Entry),
     let x := s.slot e.slot
     let creates := ∃ r h, e.action = .create r h
     (creates → x.state ≠ .free → s.entryFailure list e = some (.slotNotFree, e.slot))
     ∧ (¬ creates → x.state = .free → s.entryFailure list e = some (.slotFree, e.slot))
     ∧ (¬ creates → x.state = .draining → s.entryFailure list e = some (.slotRetiring, e.slot))
     ∧ (¬ creates → x.state ≠ .free → (∃ c, x.pend = some (.retire c)) →
         s.entryFailure list e = some (.slotRetiring, e.slot))
     ∧ ((∃ c, e.action = .retire c) → x.state ≠ .free → x.state ≠ .draining → (∀ c, x.pend ≠ some (.retire c)) →
         s.entryFailure list e = none))
  ∧ (∀ (s : State) (list : List Entry) (e : Entry) (r : RouteRecord),
       let x := s.slot e.slot
       (x.state = .free ∧ ∃ held, e.action = .create r held)
         ∨ ((x.state = .live ∨ x.state = .held ∨ x.state = .quarantined) ∧ (∀ c, x.pend ≠ some (.retire c))
           ∧ ∃ held, e.action = .modify r held) →
       let named := fun (test : RouteRecord → Bool) =>
         list.filter fun d => decide (d.slot ≠ e.slot) && d.action.record.any test
       let claimedBy := fun (test : RouteRecord → Bool) (j : SlotId) =>
         j ≠ e.slot ∧ ∃ q ∈ claimedRecords (s.slot j), test q = true
       let key := fun (q : RouteRecord) => decide (q.key = r.key)
       let pair := fun (q : RouteRecord) => decide (q.seg = r.seg ∧ q.target = r.target)
       ((∃ j, claimedBy key j) → ∃ j, claimedBy key j ∧ s.entryFailure list e = some (.keyInUse, j))
       ∧ ((∀ j, ¬ claimedBy key j) → ∀ d, (named key).head? = some d → s.entryFailure list e = some (.keyInUse, d.slot))
       ∧ ((∀ j, ¬ claimedBy key j) → named key = [] →
         ((∃ j, claimedBy pair j) → ∃ j, claimedBy pair j ∧ s.entryFailure list e = some (.targetInUse, j))
         ∧ ((∀ j, ¬ claimedBy pair j) → ∀ d, (named pair).head? = some d →
             s.entryFailure list e = some (.targetInUse, d.slot))
         ∧ ((∀ j, ¬ claimedBy pair j) → named pair = [] → s.entryFailure list e = none)))

/-- EDIT_COMMIT with an entry that fails: VALIDATION_FAILED with the position, the reason, the slot and the conflicting
slot of the first one; no entry is applied and the session stays open with its list (R46). -/
def Obligations.CommitRefusedAtFirstFailure : Prop :=
  ∀ (tag : Byte) (check : Option Byte) (token : Byte) (x : Session) (s : State) (before after : List Entry) (e : Entry)
    (why : CommitReason) (j : SlotId),
    Takes s 0x14 tag check [token] → s.session = some x → x.token = token → s.staging = before ++ e :: after →
    (∀ d ∈ before, s.entryFailure s.staging d = none) → s.entryFailure s.staging e = some (why, j) →
    exec (.editCommit tag check token) s =
      .next (answered (restarted s x) .validationFailed tag
        [BitVec.ofNat 8 before.length, why.code, BitVec.ofNat 8 e.slot.val, BitVec.ofNat 8 j.val])

/-- EDIT_COMMIT with every entry passing: each entry takes effect on its slot by the marker and the queued frames that
the slot had, no other slot changes, the session closes, and the answer counts the entries applied at once and those
placed pending. The frames of the slots retired with DISCARD at marker NONE leave their queues for the free pool, every
other frame stays where it is, in order, and a head loss count becomes 0 only where the head left (R12, R13, R14, R17,
R42, R47, R115). -/
def Obligations.CommitAppliesEveryEntry : Prop :=
  ∀ (tag : Byte) (check : Option Byte) (token : Byte) (x : Session) (s : State),
    StagingLaw s → QueuesOwned s → Takes s 0x14 tag check [token] → s.session = some x → x.token = token →
    (∀ e ∈ s.staging, s.entryFailure s.staging e = none) →
    let discarded := fun (f : FrameId) => s.staging.any fun e =>
      decide (e.action = .retire .discard ∧ s.marker e.slot = .none ∧ (s.frame f).owner = some e.slot)
    let atOnce := s.staging.countP fun e =>
      match e.action with
      | .create _ _ => true
      | .modify _ _ => decide (s.marker e.slot = .none ∧ s.queued e.slot = 0)
      | .retire _ => decide (s.marker e.slot = .none)
    ∃ t, exec (.editCommit tag check token) s = .next t
      ∧ t.session = none ∧ t.staging = [] ∧ t.tokenCounter = s.tokenCounter ∧ t.port = Port.idle
      ∧ t.resp = { status := .ok, tag := tag,
                   data := [BitVec.ofNat 8 atOnce, BitVec.ofNat 8 (s.staging.length - atOnce)] }
      ∧ t.txn = s.txn ∧ t.fill = s.fill ∧ t.config = s.config ∧ t.mgmtAddr = s.mgmtAddr ∧ t.pending = s.pending
      ∧ t.att.device = s.att.device ∧ (∀ g, t.segOwner g = s.segOwner g)
      ∧ (∀ g, t.seg g = { s.seg g with
          queue := (s.seg g).queue.filter fun f => !discarded f
          headLoss := if (s.seg g).queue.head?.any discarded then 0 else (s.seg g).headLoss })
      ∧ (∀ g, ∀ f ∈ (s.seg g).queue, t.frame f = if discarded f then Frame.empty else s.frame f)
      ∧ (∀ f, (∀ g, f ∉ (s.seg g).queue) → t.frame f = s.frame f)
      ∧ (∀ i, (∀ e ∈ s.staging, e.slot ≠ i) → t.slot i = s.slot i ∧ t.slotOwner i = s.slotOwner i)
      ∧ ∀ e ∈ s.staging,
          let old := s.slot e.slot
          let owner := s.slotOwner e.slot
          let idle := s.marker e.slot = .none
          let queued := s.queued e.slot
          (∀ r held, e.action = .create r held →
            t.slot e.slot = { state := if held then .held else .live, cur := some r, pend := none, faults := 0,
                              completed := 0 }
            ∧ t.slotOwner e.slot = { owner with flags := 0 })
          ∧ (∀ r held, e.action = .modify r held → t.slotOwner e.slot = owner
            ∧ (idle → queued = 0 → t.slot e.slot = { old with cur := some r, pend := none, faults := 0 })
            ∧ (¬ idle ∨ queued ≠ 0 → t.slot e.slot = { old with pend := some (.modify r) }))
          ∧ (∀ choice, e.action = .retire choice →
            (¬ idle → t.slot e.slot = { old with pend := some (.retire choice) } ∧ t.slotOwner e.slot = owner)
            ∧ (idle → queued = 0 → t.slot e.slot = Slot.free ∧ t.slotOwner e.slot = { owner with flags := 0 })
            ∧ (idle → queued ≠ 0 → choice = .drain →
              t.slot e.slot = { old with state := .draining, pend := none } ∧ t.slotOwner e.slot = owner)
            ∧ (idle → queued ≠ 0 → choice = .discard →
              t.slot e.slot = Slot.free ∧ t.slotOwner e.slot = { flags := 0x40, stamp := owner.stamp + 1 }))

/-! ### Routes -/

/-- ROUTE_HOLD, ROUTE_RESUME and ROUTE_RELEASE take a slot from LIVE to HELD, from HELD to LIVE, and from QUARANTINED to
LIVE with consecutive faults 0, and answer its number and new state; from another state they answer WRONG_STATE and the
state, and above 63 BAD_ARGUMENT naming SLOT. Nothing else changes (R49, R50, R51). -/
def Obligations.OperationalRouteCommands : Prop :=
  ∀ (tag : Byte) (check : Option Byte) (slot : Byte) (c : Instr) (code : Byte) (old new : SlotState) (release : Bool)
    (s : State),
    (c, code, old, new, release) ∈ [(Instr.routeHold tag check slot, (0x18 : Byte), SlotState.live, SlotState.held, false),
      (.routeResume tag check slot, 0x19, .held, .live, false),
      (.routeRelease tag check slot, 0x1A, .quarantined, .live, true)] →
    Takes s code tag check [slot] →
    (63 < slot.toNat → exec c s = .next (answered s .badArgument tag [0x01]))
    ∧ ∀ i : SlotId, slot = BitVec.ofNat 8 i.val →
      ((s.slot i).state = old → exec c s = .next (answered
        (s.setSlot i { s.slot i with state := new, faults := if release then 0 else (s.slot i).faults }) .ok tag
          [slot, new.code]))
      ∧ ((s.slot i).state ≠ old → exec c s = .next (answered s .wrongState tag [slot, (s.slot i).state.code]))

/-- ROUTE_READ answers the slot's number, state, marker, queued frames, faults, completed count, flags, stamp, parts and
records, and changes nothing; above 63 BAD_ARGUMENT naming SLOT (R27, R195, R200). ROUTE_FIND_VIRTUAL and
ROUTE_FIND_TARGET answer the slot whose current record holds the key or the pair, in any state except FREE, or
NOT_FOUND; arguments outside their values are BAD_ARGUMENT naming FORM, VIRTUAL, SEGMENT or TARGET in order. Nothing
else changes (R5, R6, R28, R29, R178, R199). -/
def Obligations.RouteReadAndQueriesAnswer : Prop :=
  (∀ (tag : Byte) (check : Option Byte) (slot : Byte) (s : State), Takes s 0x20 tag check [slot] →
     (63 < slot.toNat → exec (.routeRead tag check slot) s = .next (answered s .badArgument tag [0x01]))
     ∧ ∀ i : SlotId, slot = BitVec.ofNat 8 i.val →
       let x := s.slot i
       let o := s.slotOwner i
       let parts : Byte × List Byte :=
         match x.pend with
         | none => (0, [])
         | some (.modify r) => (2, r.encode)
         | some (.retire .drain) => (6, [0])
         | some (.retire .discard) => (6, [1])
       let current : Byte × List Byte :=
         match x.cur with
         | none => (0, [])
         | some r => (1, r.encode)
       exec (.routeRead tag check slot) s = .next (answered s .ok tag
         ([slot, x.state.code, (s.marker i).code, BitVec.ofNat 8 (s.queued i), BitVec.ofNat 8 x.faults,
           BitVec.ofNat 8 (x.completed.toNat / 256), BitVec.ofNat 8 x.completed.toNat,
           BitVec.ofNat 8 (o.flags.toNat / 256), BitVec.ofNat 8 o.flags.toNat, o.stamp, current.1 ||| parts.1]
           ++ current.2 ++ parts.2)))
  ∧ (∀ (tag : Byte) (check : Option Byte) (a b : Byte) (s : State), ClaimsDistinct s → SlotShapes s →
       (Takes s 0x21 tag check [a, b] →
         let form := if a.toNat / 16 = 1 then Form.ten else Form.seven
         let address := a.toNat % 16 * 256 + b.toNat
         let bad := 0x3FF < address
           ∨ (form = .seven ∧ (address < 0x08 ∨ 0x77 < address ∨ address = s.mgmtAddr.toNat))
         (1 < a.toNat / 16 → exec (.routeFindVirtual tag check a b) s = .next (answered s .badArgument tag [0x17]))
         ∧ (a.toNat / 16 ≤ 1 → bad → exec (.routeFindVirtual tag check a b) s = .next (answered s .badArgument tag [0x03]))
         ∧ (a.toNat / 16 ≤ 1 → ¬ bad →
           (∀ i r, (s.slot i).cur = some r → r.key = { form := form, addr := BitVec.ofNat 10 address } →
             exec (.routeFindVirtual tag check a b) s =
               .next (answered s .ok tag [BitVec.ofNat 8 i.val, (s.slot i).state.code]))
           ∧ ((∀ i r, (s.slot i).cur = some r → r.key ≠ { form := form, addr := BitVec.ofNat 10 address }) →
             exec (.routeFindVirtual tag check a b) s = .next (answered s .notFound tag []))))
       ∧ (Takes s 0x22 tag check [a, b] →
         (3 < a.toNat → exec (.routeFindTarget tag check a b) s = .next (answered s .badArgument tag [0x0A]))
         ∧ (a.toNat ≤ 3 → (b.toNat < 0x08 ∨ 0x77 < b.toNat) →
           exec (.routeFindTarget tag check a b) s = .next (answered s .badArgument tag [0x04]))
         ∧ (∀ g : Seg, a = segByte g → 0x08 ≤ b.toNat → b.toNat ≤ 0x77 →
           (∀ i r, (s.slot i).cur = some r → r.seg = g → r.target.toNat = b.toNat →
             exec (.routeFindTarget tag check a b) s =
               .next (answered s .ok tag [BitVec.ofNat 8 i.val, (s.slot i).state.code]))
           ∧ ((∀ i r, (s.slot i).cur = some r → ¬ (r.seg = g ∧ r.target.toNat = b.toNat)) →
             exec (.routeFindTarget tag check a b) s = .next (answered s .notFound tag [])))))

/-- A route record read back from its seven bytes is the record: of every record that the limits of R2 admit, no bit of
its encoding is lost (R2, R37, R195). -/
def Obligations.RecordBytesRoundTrip : Prop :=
  ∀ (mgmtAddr : Addr7) (r : RouteRecord), RecordValid mgmtAddr r →
    ∃ f h l g t n q, r.encode = [f, h, l, g, t, n, q] ∧ parseRecord mgmtAddr f h l g t n q = .ok (r, false)
      ∧ parseRecord mgmtAddr (f ||| 1) h l g t n q = .ok (r, true)

/-! ### The segment commands -/

/-- SEGMENT_CONFIG names the first field that fails; a configuration that passes is installed at once in DISABLED, IDLE
and FAULTED, where enable takes the segment into or out of service, and held as the next one in the other states; the
answer gives the mark and the state after the execution. A segment enabled waits for the bus-free time, unless the lines
still carry what SOFT_RESET ALL left (R123, R124, R125, R127, R128, R199, R201; log entries 4, 10 and 18). -/
def Obligations.SegmentConfigInstallsOrHolds : Prop :=
  ∀ (tag : Byte) (check : Option Byte) (segment en sp low retry alert : Byte) (s : State),
    Takes s 0x30 tag check [segment, en, sp, low, retry, alert] →
    (3 < segment.toNat → exec (.segmentConfig tag check segment en sp low retry alert) s =
      .next (answered s .badArgument tag [0x0A]))
    ∧ ∀ g : Seg, segment = segByte g →
      let c : SegConfig := { enable := en = 1, speed := if sp = 1 then .khz400 else .khz100, lowLimit := low.toNat,
                             retry := retry.toNat, alertAddr := BitVec.ofNat 7 alert.toNat }
      let installed := s.setSeg g { s.seg g with cfg := c, next := none }
      exec (.segmentConfig tag check segment en sp low retry alert) s = .next
        (if 1 < en.toNat then answered s .badArgument tag [0x0B]
        else if 1 < sp.toNat then answered s .badArgument tag [0x0C]
        else if low.toNat < 10 ∨ 40 < low.toNat then answered s .badArgument tag [0x0D]
        else if 3 < retry.toNat then answered s .badArgument tag [0x0E]
        else if alert ≠ 0 ∧ (alert.toNat < 0x08 ∨ 0x77 < alert.toNat) then answered s .badArgument tag [0x0F]
        else match (s.seg g).state with
        | .external | .owned | .recovering =>
          answered (s.setSeg g { s.seg g with next := some c }) .ok tag [segment, 1, (s.seg g).state.code]
        | .disabled =>
          if en = 1 then answered (s.setSeg g { s.seg g with
              cfg := c, next := none, state := .external, idCount := 0, low := none
              busFree := if (s.seg g).down = none then some 0 else none }) .ok tag [segment, 0, 2]
          else answered installed .ok tag [segment, 0, 0]
        | .faulted =>
          if en = 1 then answered installed .ok tag [segment, 0, 5]
          else answered (installed.leaveService g .disabled) .ok tag [segment, 0, 0]
        | .idle =>
          if en = 1 then answered (installed.arbitrate g) .ok tag
            [segment, 0, ((installed.arbitrate g).seg g).state.code]
          else answered (installed.leaveService g .disabled) .ok tag [segment, 0, 0])

/-- Leaving service, in any state: the segment has no transaction, claim, queue, cursor, recovery, timer or presence entry
left, holds no reservation, keeps its configurations, raises DISCOVERY_ABORTED when it had a cursor, and no routed claim
waits there (R117, R126, L10). With no transaction of the part in progress there, as R126 has it, and under the laws: the
frames of its queue are back in the pool and the other segments, with the frames queued there, are as they were; a
waiting claim is withdrawn, its address NACKed and its compound frame lost; a fill in progress for the segment is
orphaned, or lost where it is a compound frame whose claim is deferred. Each slot that lost frames has FRAME_DROPPED once,
and is examined: a pending MODIFY is applied, a pending retire and DRAINING end in FREE. No other slot changes (R11, R16,
R17, R24, R80, R103, R115, R117, R126; log entry 13). -/
def Obligations.LeavingServiceEmptiesSegment : Prop :=
  ∀ (s : State) (g : Seg) (into : SegState),
    let t := s.leaveService g into
    t.seg g = { s.seg g with
        state := into, down := none, claim := none, fair := 0, attempt := 0, pulses := 0, busFree := none, low := none
        queue := [], headLoss := 0, presence := Presence.cleared, cursor := none }
      ∧ t.reserved g = 0
      ∧ t.segOwner g = (if (s.seg g).cursor.isSome then raised (s.segOwner g) 5 else s.segOwner g)
      ∧ (∀ h, h ≠ g → t.segOwner h = s.segOwner h) ∧ t.att.device = s.att.device ∧ t.att.unrouted = s.att.unrouted
      ∧ (∀ x, s.txn = some x → x.seg = g → x.stage = .waiting → t.txn = none)
      ∧ t.config = s.config ∧ t.resp = s.resp ∧ t.session = s.session ∧ t.staging = s.staging ∧ t.pending = s.pending
      ∧ (SlotShapes s → FramePlaces s → QueuesOwned s → OneTransaction s → (s.seg g).down = none →
        (∀ x, s.txn = some x → x.seg = g → x.stage = .waiting) →
        let lost := fun (i : SlotId) => ∃ f ∈ (s.seg g).queue, (s.frame f).owner = some i
        let claimant := s.txn.filter fun x => decide (x.seg = g)
        let port := if claimant.isSome then
            unaddressed (if (s.port.wait.bind Wait.ten).isSome then none else s.port.ten) .nack
          else s.port
        let fill := if (claimant.bind Txn.frame).isSome then none else s.fill
        let deferred := port.wait.filter fun w => w.deferred && w.compound && fill.any fun p => decide (p.seg = g)
        let dropsCompound := fun (i : SlotId) =>
          (∃ x, claimant = some x ∧ x.frame.isSome ∧ x.slot = i) ∨ ∃ w, deferred = some w ∧ w.slot = i
        (∀ h, h ≠ g → t.seg h = s.seg h)
        ∧ (∀ f ∈ (s.seg g).queue, t.frame f = Frame.empty)
        ∧ (∀ f, f ∉ (s.seg g).queue → (∀ p, s.fill = some p → p.frame ≠ f) → t.frame f = s.frame f)
        ∧ t.txn = (if claimant.isSome then none else s.txn)
        ∧ t.port = (match deferred with
          | some w => { port with wait := some { w with compound := false } }
          | none => port)
        ∧ t.fill = (if deferred.isSome then none else fill)
        ∧ (∀ p, s.fill = some p → t.frame p.frame =
            if t.fill = none then Frame.empty
            else if p.seg = g then { s.frame p.frame with orphan := true } else s.frame p.frame)
        ∧ ∀ i,
          let x := s.slot i
          let dropped := raised (s.slotOwner i) 6
          (¬ lost i → (¬ ∃ y, claimant = some y ∧ y.slot = i) ∨ (x.pend = none ∧ x.state ≠ .draining) →
            t.slot i = x ∧ (dropsCompound i → t.slotOwner i = dropped) ∧ (¬ dropsCompound i → t.slotOwner i = s.slotOwner i))
          ∧ (lost i → x.pend = none → x.state ≠ .draining → t.slot i = x ∧ t.slotOwner i = dropped)
          ∧ (lost i → (¬ ∃ y, claimant = some y ∧ y.slot = i) →
            (∀ q, x.pend = some (.modify q) → x.state ≠ .draining →
              t.slot i = { x with cur := some q, pend := none, faults := 0 } ∧ t.slotOwner i = dropped)
            ∧ (∀ choice, x.pend = some (.retire choice) → x.state ≠ .draining →
              t.slot i = Slot.free ∧ t.slotOwner i = { flags := 0x40, stamp := (s.slotOwner i).stamp + 1 })
            ∧ (x.pend = none → x.state = .draining →
              t.slot i = Slot.free ∧ t.slotOwner i = { flags := 0x4040, stamp := (s.slotOwner i).stamp + 2 })))

/-- SEGMENT_CLEAR: recovery begins at attempt 1 in IDLE, EXTERNAL and FAULTED, from FAULTED with the identification
count 0; in OWNED the transaction ends at the next byte boundary, to be followed by recovery, with ABORTED in place of a
provisional outcome and for a delivery; in RECOVERING and DISABLED the answer is WRONG_STATE (R93, R141, R154). That
recovery drops at once what SOFT_RESET ALL left on the lines of a segment that is EXTERNAL again is the model's choice (log
entry 10). -/
def Obligations.SegmentClearStartsRecovery : Prop :=
  ∀ (tag : Byte) (check : Option Byte) (segment : Byte) (s : State), Takes s 0x31 tag check [segment] →
    (3 < segment.toNat → exec (.segmentClear tag check segment) s = .next (answered s .badArgument tag [0x0A]))
    ∧ ∀ g : Seg, segment = segByte g →
      let x := s.seg g
      let recovering := { x with
        state := .recovering, down := none, attempt := 1, pulses := 0, busFree := none, low := some 0 }
      exec (.segmentClear tag check segment) s = .next
        (match x.state with
        | .idle | .external => answered ((s.setSeg g recovering).withdrawAt g) .accepted tag [segment]
        | .faulted => answered (s.setSeg g { recovering with idCount := 0 }) .accepted tag [segment]
        | .recovering | .disabled => answered s .wrongState tag [segment, x.state.code]
        | .owned => answered { s.setSeg g (redriven x fun d => { d.endAtBoundary with
              clear := true
              work := match d.work with
                | .delivery f _ acked => .delivery f (some .aborted) acked
                | w => w }) with
            txn := s.txn.map fun t =>
              if t.seg = g ∧ t.stage = .tail ∧ t.taken.any Taken.final = false then
                { t with taken := some { kind := .aborted, final := true } }
              else t } .accepted tag [segment])

/-- SEGMENT_STATUS answers the state, sub-kind, queue, reservation, losses, claims, counts, cursor and configurations of
the segment, byte by byte, and changes nothing (R142, R195, R200). PRESENCE_READ answers the segment and two sets of 14
bytes, in which address 08h + k is bit 7 - (k mod 8) of byte k / 8: the entries PRESENT and the entries ABSENT. It
changes nothing (R148, R192). -/
def Obligations.SegmentStatusAndPresenceAnswer : Prop :=
  (∀ (tag : Byte) (check : Option Byte) (segment : Byte) (s : State), Takes s 0x32 tag check [segment] →
     (3 < segment.toNat → exec (.segmentStatus tag check segment) s = .next (answered s .badArgument tag [0x0A]))
     ∧ ∀ g : Seg, segment = segByte g →
       let x := s.seg g
       let bit := fun (b : Bool) => (if b then 1 else 0 : Nat)
       let config := fun (c : SegConfig) => ([BitVec.ofNat 8 (bit c.enable), BitVec.ofNat 8 (bit (c.speed = .khz400)),
         BitVec.ofNat 8 c.lowLimit, BitVec.ofNat 8 c.retry, BitVec.ofNat 8 c.alertAddr.toNat] : List Byte)
       exec (.segmentStatus tag check segment) s = .next (answered s .ok tag
         ([segment, x.state.code,
           if x.state ≠ .owned then 0 else match x.down.map Down.work with
             | none => 0
             | some (.routed _) => 1
             | some (.delivery _ _ _) => 2
             | some (.probe _) => 3
             | some (.identify _ _) => 4,
           BitVec.ofNat 8 x.queue.length, BitVec.ofNat 8 (s.reserved g), BitVec.ofNat 8 x.headLoss,
           match x.claim with
             | none => 0
             | some c => BitVec.ofNat 8 (0x80 + c.loss % 4),
           BitVec.ofNat 8 (bit x.identifyClaim + 2 * bit x.probeClaim), BitVec.ofNat 8 x.fair, BitVec.ofNat 8 x.attempt,
           match x.cursor with
             | none => 0
             | some c => BitVec.ofNat 8 c.toNat] ++ config x.cfg ++ match x.next with
             | none => [0]
             | some c => 1 :: config c)))
  ∧ (∀ (tag : Byte) (check : Option Byte) (segment : Byte) (s : State), Takes s 0x35 tag check [segment] →
       (3 < segment.toNat → exec (.presenceRead tag check segment) s = .next (answered s .badArgument tag [0x0A]))
       ∧ ∀ g : Seg, segment = segByte g → ∃ present absent : List Byte,
         present.length = 14 ∧ absent.length = 14
         ∧ exec (.presenceRead tag check segment) s = .next (answered s .ok tag (segment :: (present ++ absent)))
         ∧ ∀ k : Fin 112,
           (present[k.val / 8]?.getD 0).getLsbD (7 - k.val % 8) = decide ((s.seg g).presence[k] = .present)
           ∧ (absent[k.val / 8]?.getD 0).getLsbD (7 - k.val % 8) = decide ((s.seg g).presence[k] = .absent))

/-- SEGMENT_DISCOVER and DISCOVER_CANCEL: a sweep starts at 08h in IDLE, EXTERNAL and OWNED with no cursor, is answered
BUSY with one, and WRONG_STATE elsewhere; a cancel removes the cursor with DISCOVERY_ABORTED, leaves a probe running
without its sweep, and is answered WRONG_STATE without a cursor (R149, R153; log entry 12). -/
def Obligations.DiscoveryStartsAndCancels : Prop :=
  ∀ (tag : Byte) (check : Option Byte) (segment : Byte) (s : State),
    (Takes s 0x33 tag check [segment] →
      (3 < segment.toNat → exec (.segmentDiscover tag check segment) s = .next (answered s .badArgument tag [0x0A]))
      ∧ ∀ g : Seg, segment = segByte g → exec (.segmentDiscover tag check segment) s = .next
        (match (s.seg g).cursor, (s.seg g).state with
        | some c, _ => answered s .busy tag [segment, BitVec.ofNat 8 c.toNat]
        | none, .idle | none, .external | none, .owned =>
          answered ((s.setSeg g { s.seg g with cursor := some 0x08, fair := 0 }).arbitrate g) .accepted tag [segment]
        | none, st => answered s .wrongState tag [segment, st.code]))
    ∧ (Takes s 0x34 tag check [segment] →
      (3 < segment.toNat → exec (.discoverCancel tag check segment) s = .next (answered s .badArgument tag [0x0A]))
      ∧ ∀ g : Seg, segment = segByte g → exec (.discoverCancel tag check segment) s = .next
        (match (s.seg g).cursor with
        | none => answered s .wrongState tag [segment, (s.seg g).state.code]
        | some c => answered ((s.setSeg g { s.seg g with
              cursor := none, fair := 0
              down := (s.seg g).down.map fun d => match d.work with
                | .probe _ => { d with work := .probe false }
                | _ => d }).setSegOwner g (raised (s.segOwner g) 5)) .ok tag [segment, BitVec.ofNat 8 c.toNat]))

/-! ### Attention -/

/-- A raise: a clear flag becomes set and the owner's stamp rises by 1, from FFh to 00h; a set flag changes nothing; no
other flag and no other owner changes (R162). -/
def Obligations.RaiseSetsFlagAndStamp : Prop :=
  ∀ (s : State) (i : SlotId) (g : Seg) (fs : SlotFlag) (fg : SegFlag) (fd : DeviceFlag),
    s.raiseSlot i fs = s.setSlotOwner i (raised (s.slotOwner i) fs.bit)
      ∧ s.raiseSeg g fg = s.setSegOwner g (raised (s.segOwner g) fg.bit)
      ∧ s.raiseDevice fd = { s with att := { s.att with device := raised s.att.device fd.bit } }
      ∧ ∀ (o : Owner) (b : Nat), b < 16 →
        (raised o b).flags.getLsbD b = true
          ∧ (∀ k, k ≠ b → (raised o b).flags.getLsbD k = o.flags.getLsbD k)
          ∧ (raised o b).stamp = (if o.flags.getLsbD b then o.stamp else o.stamp + 1)

/-- ALERT_N is low if and only if at least one unmasked flag is set on the device, a slot or a segment, at the mask
positions of the flag kinds; while device reset lasts it is released (R168, R169, R170, R196, L11). -/
def Obligations.AlertLowIffUnmaskedFlag : Prop :=
  ∀ s : State, FlagsInRange s →
    (s.alertDrivenLow = true ↔ s.inReset = false ∧
      ((∃ b, b < 4 ∧ s.att.device.flags.getLsbD b = true ∧ s.config.mask.getLsbD b = false)
        ∨ (∃ i b, b < 15 ∧ (s.slotOwner i).flags.getLsbD b = true ∧ s.config.mask.getLsbD (4 + b) = false)
        ∨ (∃ g b, b < 9 ∧ (s.segOwner g).flags.getLsbD b = true ∧ s.config.mask.getLsbD (19 + b) = false)))

/-- ATTENTION_SUMMARY answers the device flags and stamp, the set of slots and the set of segments with a set flag, and
the level of ALERT_N, and changes nothing (R165, R192). ATTENTION_READ answers the owner, its flags and its stamp, for a
segment also the unrouted-alert address or FFh, and changes nothing; an owner that does not exist is BAD_ARGUMENT naming
OWNER (R166, R199, R200). -/
def Obligations.AttentionSummaryAndReadAnswer : Prop :=
  (∀ (tag : Byte) (check : Option Byte) (s : State), Takes s 0x40 tag check [] →
     ∃ (slots : List Byte) (segments : Byte), slots.length = 8
       ∧ exec (.attentionSummary tag check) s = .next (answered s .ok tag
         ([BitVec.ofNat 8 (s.att.device.flags.toNat / 256), BitVec.ofNat 8 s.att.device.flags.toNat, s.att.device.stamp]
           ++ slots ++ [segments, if s.alertDrivenLow then 1 else 0]))
       ∧ (∀ i : SlotId, (slots[i.val / 8]?.getD 0).getLsbD (7 - i.val % 8) = decide ((s.slotOwner i).flags ≠ 0))
       ∧ (∀ g : Seg, segments.getLsbD (segByte g).toNat = decide ((s.segOwner g).flags ≠ 0)) ∧ segments < 16)
  ∧ (∀ (tag : Byte) (check : Option Byte) (kind number : Byte) (s : State), Takes s 0x41 tag check [kind, number] →
       let flags := fun (o : Owner) => ([BitVec.ofNat 8 (o.flags.toNat / 256), BitVec.ofNat 8 o.flags.toNat, o.stamp] : List Byte)
       let answer := exec (.attentionRead tag check kind number) s
       ((2 < kind.toNat ∨ (kind = 0 ∧ number ≠ 0) ∨ (kind = 1 ∧ 63 < number.toNat) ∨ (kind = 2 ∧ 3 < number.toNat)) →
         answer = .next (answered s .badArgument tag [0x14]))
       ∧ (kind = 0 → number = 0 → answer = .next (answered s .ok tag ([0, 0] ++ flags s.att.device)))
       ∧ (∀ i : SlotId, kind = 1 → number = BitVec.ofNat 8 i.val →
           answer = .next (answered s .ok tag ([1, number] ++ flags (s.slotOwner i))))
       ∧ (∀ g : Seg, kind = 2 → number = segByte g →
           answer = .next (answered s .ok tag ([2, number] ++ flags (s.segOwner g) ++ [match s.att.unrouted.get g with
             | none => 0xFF
             | some a => BitVec.ofNat 8 a.toNat]))))

/-- ATTENTION_ACK with the owner's stamp clears the named flags and keeps the others and the stamp; with another stamp
it clears nothing and is answered STALE; both answers give the owner, its stamp and its flags. An owner that does not
exist is BAD_ARGUMENT naming OWNER, a flag that the owner's kind does not have BAD_ARGUMENT naming FLAGS (R167, R199).
-/
def Obligations.AttentionAckClearsNamedFlags : Prop :=
  ∀ (tag : Byte) (check : Option Byte) (kind number stamp high low : Byte) (s : State),
    Takes s 0x42 tag check [kind, number, stamp, high, low] →
    let named : BitVec 16 := high ++ low
    let bytes := fun (o : Owner) => ([o.stamp, BitVec.ofNat 8 (o.flags.toNat / 256), BitVec.ofNat 8 o.flags.toNat] : List Byte)
    let cleared := fun (o : Owner) => { o with flags := o.flags &&& ~~~named }
    let answer := exec (.attentionAck tag check kind number stamp high low) s
    let acknowledges := fun (o : Owner) (kinds : Nat) (written : State) =>
      ((2 ^ kinds ≤ named.toNat → answer = .next (answered s .badArgument tag [0x15]))
      ∧ (named.toNat < 2 ^ kinds → stamp = o.stamp →
          answer = .next (answered written .ok tag ([kind, number] ++ bytes (cleared o))))
      ∧ (named.toNat < 2 ^ kinds → stamp ≠ o.stamp →
          answer = .next (answered s .stale tag ([kind, number] ++ bytes o))))
    ((2 < kind.toNat ∨ (kind = 0 ∧ number ≠ 0) ∨ (kind = 1 ∧ 63 < number.toNat) ∨ (kind = 2 ∧ 3 < number.toNat)) →
      answer = .next (answered s .badArgument tag [0x14]))
    ∧ (kind = 0 → number = 0 → acknowledges s.att.device 4 { s with att := { s.att with device := cleared s.att.device } })
    ∧ (∀ i : SlotId, kind = 1 → number = BitVec.ofNat 8 i.val →
        acknowledges (s.slotOwner i) 15 (s.setSlotOwner i (cleared (s.slotOwner i))))
    ∧ (∀ g : Seg, kind = 2 → number = segByte g →
        acknowledges (s.segOwner g) 9 (s.setSegOwner g (cleared (s.segOwner g))))

/-! ### The upstream port: conditions and limits -/

/-- START and REPEATED_START by port state: a START opens an address phase; a repeated START ends a management or
unaddressed phase, executes the command of a management write, and makes a routed phase the held phase with its
transaction PAUSED. Neither can occur while the part holds SCL low (R53), nor before the master has clocked the first
byte of a routed read (R88; log entry 28), and then neither has an effect (log entry 1). The upstream-low timer starts
from 0 at the fall of SCL (R53, R55, R56, R69, R73; log entries 4, 19 and 20). -/
def Obligations.StartOpensAddressPhase : Prop :=
  ∀ (c : Instr) (s : State), (c = .start ∨ c = .repeatedStart) → s.inReset = false →
    let again := fun (s : State) (held : Option Held) =>
      { s with port := { Port.idle with
        state := .address, held := held, ten := s.port.ten, repeated := true, low := some 0 } }
    let paused := fun (t : Txn) =>
      { s.setSeg t.seg (redriven (s.seg t.seg) fun d => if d.pos = .readAck then { d with pos := .boundary } else d) with
        txn := some { t with stage := .paused } }
    let unclocked := s.port.state = .routedRead ∧ s.port.firstByte = true
    (s.port.stretch.isSome ∨ unclocked → exec c s = .next s)
    ∧ (s.port.stretch = none → ¬ unclocked →
      (s.port.state = .idle → exec c s = .next { s with port := { Port.idle with state := .address, low := some 0 } })
      ∧ (s.port.state = .mgmtRead ∨ s.port.state = .notAddressed → exec c s = .next (again s none))
      ∧ (s.port.state = .mgmtWrite →
          exec c s = .next (if s.runWrite.port.state = .idle then s.runWrite else again s.runWrite none))
      ∧ (s.port.state = .address ∨ s.port.state = .tenFirst → exec c s = .next (again s s.port.held))
      ∧ (∀ i, s.port.hand = some i →
          (s.port.state = .postedFill → exec c s = .next (again s (some { slot := i, kind := .fill })))
          ∧ (∀ t, s.txn = some t →
            (s.port.state = .routedCt → exec c s = .next (again (paused t) (some { slot := i, kind := .ct })))
            ∧ (s.port.state = .routedRead → exec c s = .next (again (paused t) (some { slot := i, kind := .read }))))))

/-- STOP by port state: the command is executed, the fill closed, or the routed transaction's upstream side ended with
its provisional outcome; a held phase ends in the same way; the port is IDLE with no memory (R68, R69, R86, R88, R94). It
cannot occur while the part holds SCL low (R53), and a read whose first byte the master has not clocked cannot end so
(R88; log entry 28): then it has no effect (log entry 1). -/
def Obligations.StopEndsPhase : Prop :=
  ∀ (s : State), s.inReset = false →
    let unclocked := s.port.state = .routedRead ∧ s.port.firstByte = true
    (s.port.stretch.isSome ∨ unclocked → exec .stop s = .next s)
    ∧ (s.port.stretch = none → ¬ unclocked →
      (s.port.state = .idle → exec .stop s = .next s)
      ∧ (s.port.state = .mgmtRead ∨ s.port.state = .notAddressed → exec .stop s = .next { s with port := Port.idle })
      ∧ (s.port.state = .mgmtWrite → exec .stop s = .next { s.runWrite with port := Port.idle })
      ∧ (s.port.state = .postedFill → exec .stop s = .next { s.closeFill with port := Port.idle })
      ∧ (∀ t, s.txn = some t → s.port.state = .routedCt ∨ s.port.state = .routedRead →
          exec .stop s = .next { endedNormally s t with port := Port.idle })
      ∧ (s.port.state = .address ∨ s.port.state = .tenFirst →
          (s.port.held = none → exec .stop s = .next { s with port := Port.idle })
          ∧ (∀ i, s.port.held = some { slot := i, kind := .fill } →
              exec .stop s = .next { s.closeFill with port := Port.idle })
          ∧ (∀ i t, s.txn = some t →
              s.port.held = some { slot := i, kind := .ct } ∨ s.port.held = some { slot := i, kind := .read } →
              exec .stop s = .next { endedNormally s t with port := Port.idle })))

/-- The upstream low timeout and a misplaced condition abandon the transaction in progress: a command is discarded, a
fill's frame returns to the pool without a flag, a routed phase takes ABORTED and ends at the next byte boundary; the
timeout raises UPSTREAM_TIMEOUT and leaves IDLE, a misplaced condition raises nothing and is then taken from IDLE (R73,
R74, R75). The timeout is reached by a timer that runs; where the upstream-low timer is stopped, as in IDLE, in
NOT_ADDRESSED and during a stretch, the row has no effect (R73; log entries 1 and 4). A condition in IDLE or NOT_ADDRESSED is
never misplaced, and the row is taken there as the condition itself (log entry 19); under a stretch none can occur (R53),
and the row has no effect (log entry 1). -/
def Obligations.AbandonmentEndsTransaction : Prop :=
  ∀ (s : State), s.inReset = false →
    let p := s.port
    let routed := p.state = .routedCt ∨ p.state = .routedRead
      ∨ ((p.state = .address ∨ p.state = .tenFirst) ∧ ∃ h, p.held = some h ∧ (h.kind = .ct ∨ h.kind = .read))
    let filling := p.state = .postedFill
      ∨ ((p.state = .address ∨ p.state = .tenFirst) ∧ ∃ h, p.held = some h ∧ h.kind = .fill)
    let bare := (p.state = .mgmtWrite ∨ p.state = .mgmtRead ∨ p.state = .address ∨ p.state = .tenFirst) ∧ p.held = none
    let started := { Port.idle with state := .address, low := some 0 }
    let breaks := fun (u : State) =>
      (p.low.isSome → exec .upstreamLowTimeout s = .next { u with
        att := { u.att with device := raised u.att.device 3 }, port := Port.idle })
      ∧ exec (.misplacedCondition .stop) s = .next { u with port := Port.idle }
      ∧ exec (.misplacedCondition .start) s = .next { u with port := started }
    (p.low = none → exec .upstreamLowTimeout s = .next s)
    ∧ (p.state = .idle ∨ p.state = .notAddressed →
      exec (.misplacedCondition .stop) s = .next (if p.state = .idle then s else { s with port := Port.idle })
      ∧ exec (.misplacedCondition .start) s = .next { s with
        port := if p.state = .idle then started else { started with ten := p.ten, repeated := true } })
    ∧ (p.stretch.isSome → p.state ≠ .idle → p.state ≠ .notAddressed → ∀ c, exec (.misplacedCondition c) s = .next s)
    ∧ (p.stretch = none → bare → breaks s)
    ∧ (p.stretch = none → filling → ∀ x, s.fill = some x → breaks (fillReturned s x))
    ∧ (p.stretch = none → routed → ∀ t, s.txn = some t → breaks (endedWith s t .aborted true))

/-- The hold limit runs out. A deferred address phase is NACKed and its slot takes HOLD_EXPIRED before grant; a waiting
claim is withdrawn with it; a granted transaction takes it as final, with the answer read so far, and ends at the next
byte boundary. Upstream the answer is NACK, or FFh at a read byte; a compound frame not yet granted is lost with
FRAME_DROPPED, and a granted one stays in the fill position until the byte boundary (R63, R65, R71, R80, R90; log entry
15). Without a stretch the row has no effect (log entry 1). -/
def Obligations.HoldLimitExpiryEndsStretch : Prop :=
  ∀ (s : State), s.inReset = false →
    let late : OutcomeKind := .holdExpired false
    (s.port.stretch = none → exec .holdLimitExpiry s = .next s)
    ∧ (s.port.stretch.isSome → ∀ t, s.txn = some t →
      let cut := fun (ten : Option TenMemory) (out : UpOut) =>
        { endedWith s t (.holdExpired t.answered) true with port := unaddressed ten out }
      (∀ w, s.port.wait = some w → s.port.state ≠ .routedRead →
        let ten := if w.ten.isSome then none else s.port.ten
        (w.deferred = true → ∀ r, (s.slot w.slot).cur = some r →
          (w.compound = false → exec .holdLimitExpiry s =
            .next (State.report { s with port := unaddressed ten .nack } w.slot r.seg late false))
          ∧ (w.compound = true → ∀ p, s.fill = some p → exec .holdLimitExpiry s =
            .next (State.report { (fillReturned s p).raiseSlot w.slot .frameDropped with port := unaddressed ten .nack }
              w.slot r.seg late false)))
        ∧ (w.deferred = false → t.stage = .waiting →
          let u := { s.setSeg t.seg { s.seg t.seg with claim := none } with txn := none, port := unaddressed ten .nack }
          (t.frame = none → exec .holdLimitExpiry s = .next (u.report t.slot t.seg late false))
          ∧ (t.frame.isSome → ∀ p, s.fill = some p → exec .holdLimitExpiry s =
            .next (((fillReturned u p).raiseSlot t.slot .frameDropped).report t.slot t.seg late false)))
        ∧ (w.deferred = false → t.stage ≠ .waiting → exec .holdLimitExpiry s = .next (cut ten .nack)))
      ∧ (s.port.wait = none → s.port.state = .routedRead → exec .holdLimitExpiry s = .next (cut s.port.ten (.byte 0xFF)))
      ∧ (s.port.wait = none → s.port.state ≠ .routedRead → exec .holdLimitExpiry s = .next (cut s.port.ten .nack)))

/-! ### The upstream port: address bytes -/

/-- An address byte that no phase of the part takes: 00h to 07h, 7Ch to 7Fh, and an address of the routed range that no
slot's key holds are NACKed without a flag; the management address is ACKed into MGMT_WRITE with an empty buffer or
MGMT_READ with the response and its check byte; 78h to 7Bh are the 10-bit forms. A held phase ends first as at STOP, and
a 7-bit form clears the 10-bit memory (R57, R58, R60, R61, R67, R69, R73, R179). A 7-bit address of the routed range that a
slot's key holds is decided on that slot, with the 10-bit memory cleared (R5, R57, R61, R67). -/
def Obligations.AddressByteDecision : Prop :=
  (∀ (a : Addr7) (read : Bool) (s : State), s.inReset = false → s.port.state = .address → s.port.wait = none →
     0x5C ≤ s.mgmtAddr → s.mgmtAddr ≤ 0x5F → SlotShapes s →
     let body := s.resp.status.code :: s.resp.tag :: BitVec.ofNat 8 s.resp.data.length :: s.resp.data
     (a = s.mgmtAddr → exec (.addressByte a read) s = .next { s.endHeld with
       port := { Port.idle with
         state := if read then .mgmtRead else .mgmtWrite, low := some 0, out := .ack
         send := if read then body ++ [crc8 (addressByteOf s.mgmtAddr true :: body)] else [] } })
     ∧ ((a < 0x08 ∨ 0x7B < a) → exec (.addressByte a read) s = .next { s.endHeld with port := unaddressed none .nack })
     ∧ (0x08 ≤ a → a ≤ 0x77 → a ≠ s.mgmtAddr →
         (∀ i r, (s.slot i).cur = some r → r.key ≠ { form := .seven, addr := a.setWidth 10 }) →
         exec (.addressByte a read) s = .next { s.endHeld with port := unaddressed none .nack })
     ∧ (∀ xx : BitVec 2, a.toNat = 0x78 + xx.toNat →
         exec (.addressByte a read) s = (if read then exec (.tenBitReadForm xx) s else exec (.tenBitFirstByte xx) s)))
  ∧ (∀ (a : Addr7) (read : Bool) (i : SlotId) (r : RouteRecord) (s : State), s.inReset = false → s.port.state = .address →
       s.port.wait = none → 0x08 ≤ a → a ≤ 0x77 → a ≠ s.mgmtAddr → ClaimsDistinct s → SlotShapes s →
       (s.slot i).cur = some r → r.key = { form := .seven, addr := a.setWidth 10 } →
       exec (.addressByte a read) s = .next (State.decideSlot { s with port := { s.port with ten := none } } i read none))

/-- A 10-bit first byte with W: ACK into TEN_FIRST when a current record has a TEN key with its upper bits, whatever the
slot's state; else NACK, which ends a held phase as at STOP. Upper bits other than the memory's clear the memory (R5,
R64, R67, R69). A 10-bit second byte: no slot with the key is a NACK that clears the memory; a READ_ONLY slot that is
not the held one is ACKed with the memory set and nothing accepted, or refused on its state or segment; any other slot
is decided for a write (R5, R65, R69). A 10-bit read form is decided on the memory's slot after a repeated START when
the memory's upper bits match; else it is NACKed without a flag, and a mismatch clears the memory (R66, R67, R69). -/
def Obligations.TenBitBytesDecision : Prop :=
  (∀ (xx : BitVec 2) (s : State), s.inReset = false → s.port.state = .address → s.port.wait = none → SlotShapes s →
     let ten := s.port.ten.filter fun m => decide (m.upper = xx)
     let known := ∃ i r, (s.slot i).cur = some r ∧ r.key.form = .ten ∧ r.key.addr.toNat / 256 = xx.toNat
     (known → exec (.tenBitFirstByte xx) s = .next { s with
       port := { Port.idle with state := .tenFirst, held := s.port.held, ten := ten, upper := xx,
                                repeated := s.port.repeated, low := some 0, out := .ack } })
     ∧ (¬ known → exec (.tenBitFirstByte xx) s = .next { s.endHeld with port := unaddressed ten .nack }))
  ∧ (∀ (b : Byte) (s : State), s.inReset = false → s.port.state = .tenFirst → ClaimsDistinct s → SlotShapes s →
       let key : Key := { form := .ten, addr := BitVec.ofNat 10 (s.port.upper.toNat * 256 + b.toNat) }
       ((∀ i r, (s.slot i).cur = some r → r.key ≠ key) →
         exec (.tenBitSecondByte b) s = .next { s.endHeld with port := unaddressed none .nack })
       ∧ (∀ i r, (s.slot i).cur = some r → r.key = key →
         let mine := ∃ h, s.port.held = some h ∧ h.slot = i
         (mine ∨ r.access ≠ .readOnly → exec (.tenBitSecondByte b) s = .next (s.decideSlot i false (some s.port.upper)))
         ∧ (¬ mine → r.access = .readOnly →
           exec (.tenBitSecondByte b) s = .next (match routedCheck s.endHeld i r true with
             | some f => { s.endHeld.raiseSlot i f with port := unaddressed none .nack }
             | none => { s.endHeld with port := unaddressed (some { slot := i, upper := s.port.upper }) .ack }))))
  ∧ (∀ (xx : BitVec 2) (s : State), s.inReset = false → s.port.state = .address → s.port.wait = none →
       (∀ m, s.port.ten = some m → m.upper = xx → s.port.repeated = true →
         exec (.tenBitReadForm xx) s = .next (s.decideSlot m.slot true none))
       ∧ (∀ m, s.port.ten = some m → m.upper = xx → s.port.repeated = false →
         exec (.tenBitReadForm xx) s = .next { s.endHeld with port := unaddressed (some m) .nack })
       ∧ ((∀ m, s.port.ten = some m → m.upper ≠ xx) →
         exec (.tenBitReadForm xx) s = .next { s.endHeld with port := unaddressed none .nack }))

/-- A new routed phase on a slot, with no held phase of it: checks 1 to 3 in order, each with its flag; then for a write
to a POSTED route the reservation of the lowest free frame, or NO_BUFFER, and for the rest the withheld acknowledge with
a claim placed or deferred (R61, R62, R63, R65, R78, R100). -/
def Obligations.RoutedPhaseDecision : Prop :=
  ∀ (i : SlotId) (r : RouteRecord) (read : Bool) (xx : Option (BitVec 2)) (s : State), (s.slot i).cur = some r →
    s.port.held = none →
    let refusedTen := if xx.isSome then none else s.port.ten
    let refuse := fun (f : SlotFlag) => { s.raiseSlot i f with port := unaddressed refusedTen .nack }
    s.decideSlot i read xx =
      match routedCheck s i r read with
      | some f => refuse f
      | none =>
        if read = false ∧ r.mode = .posted then
          if s.fill = none ∧ (s.seg r.seg).queue.length < 8 then
            match (List.finRange 24).find? (fun f =>
              decide (f ∉ (s.seg .a).queue ++ (s.seg .b).queue ++ (s.seg .c).queue ++ (s.seg .d).queue)) with
            | none => refuse .noBuffer
            | some f => { s.setFrame f { Frame.empty with owner := some i } with
                fill := some { frame := f, seg := r.seg }
                port := { Port.idle with
                  state := .postedFill, hand := some i, low := some 0, out := .ack
                  ten := match xx with
                    | some upper => some { slot := i, upper := upper }
                    | none => s.port.ten } }
          else refuse .noBuffer
        else claimed s r { slot := i, read := read, ten := xx, deferred := false, compound := false } none

/-- The held phase ends as at STOP: a held fill is closed, a held routed transaction ends with its provisional outcome;
no other part of the port changes. An address that names another slot, or asks a write of a posted route of the held
slot, ends it first and is then decided as a new phase (R69, R86, R94, R104). A continuation of a held routed
transaction on its own slot: checks 1 to 3 for the new direction, then a downstream repeated START with the target
address byte, the transaction in stage ADDRESS and the acknowledge withheld; a failed check raises its flag, ends the
held phase as at STOP and NACKs (R69, R86, R89). -/
def Obligations.HeldPhaseEndsOrContinues : Prop :=
  (∀ (s : State), let open_ := { s with port := { s.port with held := none } }
     (s.port.held = none → s.endHeld = s)
     ∧ (∀ h, s.port.held = some h → h.kind = .fill → s.endHeld = { open_.closeFill with port := open_.port })
     ∧ (∀ h t, s.port.held = some h → h.kind ≠ .fill → s.txn = some t → s.endHeld = endedNormally open_ t)
     ∧ (∀ h i read xx, s.port.held = some h → h.slot ≠ i → s.decideSlot i read xx = s.endHeld.decideSlot i read xx)
     ∧ (∀ h xx, s.port.held = some h → h.kind = .fill → s.decideSlot h.slot false xx = s.endHeld.decideSlot h.slot false xx)
     ∧ (∀ h xx r, s.port.held = some h → h.kind = .read → (s.slot h.slot).cur = some r → r.mode = .posted →
         s.decideSlot h.slot false xx = s.endHeld.decideSlot h.slot false xx))
  ∧ (∀ (s : State) (h : Held) (r : RouteRecord) (t : Txn) (read : Bool) (xx : Option (BitVec 2)),
       s.port.held = some h → (s.slot h.slot).cur = some r → s.txn = some t → h.kind ≠ .fill →
       (h.kind = .read → read = false → r.mode = .cutThrough) →
       s.decideSlot h.slot read xx =
         match routedCheck s h.slot r read with
         | some f => { (s.raiseSlot h.slot f).endHeld with
             port := unaddressed (if xx.isSome then none else s.port.ten) .nack }
         | none => { s.setSeg t.seg (redriven (s.seg t.seg) fun d =>
               if d.pos = .boundary then
                 { d with work := .routed false, pos := .addr, read := read, first := false,
                          out := addressByteOf d.target read, left := [], after := .goOn }
               else { d with after := .restart read }) with
             txn := some { t with stage := .address }
             port := withholding s (some h.slot)
               { slot := h.slot, read := read, ten := xx, deferred := false, compound := false } })

/-- A read of the slot of a held fill: checks 1 to 3 for a read, whose failure closes the fill as at STOP; an overlong
frame and a wrong check byte return the frame with their flags; else the check byte is taken off and the claim placed,
or deferred, with the frame as the compound frame (R90). -/
def Obligations.CompoundReadBegins : Prop :=
  ∀ (s : State) (h : Held) (r : RouteRecord) (p : Fill) (xx : Option (BitVec 2)),
    s.port.held = some h → h.kind = .fill → (s.slot h.slot).cur = some r → s.fill = some p →
    let x := s.frame p.frame
    let lost := fun (f : SlotFlag) =>
      { (fillReturned s p).raiseSlot h.slot f with port := unaddressed s.port.ten .nack }
    s.decideSlot h.slot true xx =
      match routedCheck s h.slot r true with
      | some f => { (s.raiseSlot h.slot f).closeFill with port := unaddressed s.port.ten .nack }
      | none =>
        if x.overlong then lost .lengthExceeded
        else if r.check ≠ .off
            ∧ x.bytes.getLast? ≠ some (crc8 (r.key.writeBytes ++ x.bytes.dropLast)) then lost .checkFail
        else claimed (s.setFrame p.frame { x with
            bytes := if r.check = .off then x.bytes else x.bytes.dropLast, verified := decide (r.check ≠ .off) })
          r { slot := h.slot, read := true, ten := none, deferred := false, compound := true } (some p.frame)

/-! ### The upstream port: data bytes -/

/-- The address bytes that a check byte of a posted frame covers: v × 2 for a SEVEN key v; F0h + xx × 2 and then b for a
TEN key with upper bits xx and lower byte b (R106, R197). A receiver that feeds the covered bytes and then the check
byte obtains 00h exactly when the check byte is right (R198). -/
def Obligations.CheckByteOfPostedFrame : Prop :=
  ((∀ v : Addr7, ({ form := .seven, addr := v.setWidth 10 } : Key).writeBytes = [BitVec.ofNat 8 (v.toNat * 2)])
     ∧ (∀ (xx : BitVec 2) (b : Byte), ({ form := .ten, addr := BitVec.ofNat 10 (xx.toNat * 256 + b.toNat) } : Key).writeBytes
         = [BitVec.ofNat 8 (0xF0 + xx.toNat * 2), b])
     ∧ ({ form := .seven, addr := 0x5A } : Key).writeBytes = [0xB4]
     ∧ ({ form := .ten, addr := 0x2A5 } : Key).writeBytes = [0xF4, 0xA5])
  ∧ (∀ (covered : List Byte) (c : Byte), crc8 (covered ++ [c]) = 0 ↔ c = crc8 covered)

/-- POSTED_FILL_BYTE: a byte below the fill limit, which is the max write length and one more with a check mode, is
appended and ACKed; any other is NACKed, not stored, and sets the overlong mark; the port stays in POSTED_FILL (R102).
The close of a fill tests length, check byte, segment and slot in order, each failure returning the frame with its flag;
a frame that passes goes, without its check byte, to the tail of its segment's queue, and the arbiter runs (R23, R105,
R106, R107). In another port state the row has no effect (log entry 1). -/
def Obligations.PostedFillTakesBytesAndCloses : Prop :=
  (∀ (b : Byte) (s : State), s.inReset = false →
     (s.port.state ≠ .postedFill → exec (.postedFillByte b) s = .next s)
     ∧ (∀ p i r, s.port.state = .postedFill → s.fill = some p → (s.frame p.frame).owner = some i →
       (s.slot i).cur = some r →
       let x := s.frame p.frame
       exec (.postedFillByte b) s = .next
         (if x.bytes.length < r.maxLen + (if r.check = .off then 0 else 1) then
           { s.setFrame p.frame { x with bytes := x.bytes ++ [b] } with port := clockFell { s.port with out := .ack } }
         else { s.setFrame p.frame { x with overlong := true } with port := clockFell { s.port with out := .nack } })))
  ∧ (∀ (s : State) (p : Fill) (i : SlotId) (r : RouteRecord), s.fill = some p → (s.frame p.frame).owner = some i →
       (s.slot i).cur = some r →
       let x := s.frame p.frame
       let lost := fun (f : SlotFlag) => (fillReturned s p).raiseSlot i f
       s.closeFill =
         if x.overlong then lost .lengthExceeded
         else if r.check ≠ .off
             ∧ x.bytes.getLast? ≠ some (crc8 (r.key.writeBytes ++ x.bytes.dropLast)) then lost .checkFail
         else if x.orphan then lost .frameDropped
         else if ¬ (((s.slot i).state = .live ∨ (s.slot i).state = .held) ∧ (s.slot i).pend = none) then lost .frameDropped
         else
           let u := s.setFrame p.frame { x with
             bytes := if r.check = .off then x.bytes else x.bytes.dropLast, verified := decide (r.check ≠ .off) }
           ({ u.setSeg p.seg { u.seg p.seg with queue := (u.seg p.seg).queue ++ [p.frame] } with fill := none }).arbitrate
             p.seg)

/-- CUT_THROUGH_DATA_BYTE: after a refused byte of the phase each further one is NACKed at once and not sent; a byte
beyond the max write length is NACKed, raises LENGTH_EXCEEDED and ends the transaction with ABORTED; else the byte goes
to the target with the acknowledge withheld. READ_DATA_ACK: ACK asks the target for the next byte under a new stretch,
NACK leaves the segment at the byte boundary; either way the first byte of the read has been clocked (R83, R84, R85, R87,
R88; log entries 24 and 28). Under a stretch neither row has an effect (log entry 1). -/
def Obligations.RelayedBytesOfUpstreamMaster : Prop :=
  ∀ (s : State) (t : Txn), s.inReset = false → s.txn = some t →
    let stretched := { s.port with stretch := some { elapsed := 0, limit := s.config.hold }, low := none }
    let moved := fun (f : Down → Down) => s.setSeg t.seg (redriven (s.seg t.seg) f)
    (∀ b r, s.port.state = .routedCt → s.port.stretch = none → (s.slot t.slot).cur = some r →
      exec (.cutThroughDataByte b) s = .next
        (if t.phaseRefused then { s with port := { s.port with out := .nack, low := some 0 } }
        else if r.maxLen ≤ t.count then
          { endedWith (s.raiseSlot t.slot .lengthExceeded) t .aborted true with port := unaddressed s.port.ten .nack }
        else { moved (fun d => { d with pos := .byte, out := b }) with port := stretched }))
    ∧ (∀ d, s.port.state = .routedRead → s.port.stretch = none → (s.seg t.seg).down = some d → d.pos = .readAck →
      exec (.readDataAck true) s = .next { moved (fun d => { d with pos := .readByte }) with
        port := { stretched with out := .released, firstByte := false } }
      ∧ exec (.readDataAck false) s = .next { moved (fun d => { d with pos := .boundary }) with
        port := { s.port with out := .released, firstByte := false, low := some 0 } })
    ∧ (∀ b ack, s.port.stretch.isSome →
      exec (.cutThroughDataByte b) s = .next s ∧ exec (.readDataAck ack) s = .next s)

/-! ### Answers and bytes on a segment -/

/-- What a routed transaction reads on its segment. An address answer enters the presence map and is given upstream: ACK
opens the write or the read, NACK takes TARGET_NACK and ends with STOP. A write byte's answer is counted, given upstream
and remembered. A read byte is sent upstream before its acknowledge. A transaction that ends at this byte boundary gives
nothing upstream and goes to its STOP; so does one that a soft reset detached, which has no record any more and whatever
record there is by then stays as it is (R62, R65, R69, R77, R82, R83, R84, R87, R88, R96, R132, R143). -/
def Obligations.RoutedAnswers : Prop :=
  (∀ (s : State) (g : Seg) (d : Down) (frameOut : Bool), s.inReset = false → (s.seg g).down = some d →
    d.work = .routed frameOut → d.detached = true →
    let dn := fun (u : State) => u.setSeg g (onLines (u.seg g) { d with pos := .stop, after := .stop })
    (∀ ack, d.pos = .addr → exec (if frameOut then .frameOutByteAnswer g ack else .targetAddressAnswer g ack) s =
      .next (dn (s.notePresence g d.target ack)))
    ∧ (∀ ack, d.pos = .byte → exec (if frameOut then .frameOutByteAnswer g ack else .cutThroughByteAnswer g ack) s =
      .next (dn s))
    ∧ (∀ b, d.pos = .readByte → frameOut = false → exec (.readByteClocked g b) s = .next (dn s)))
  ∧ ∀ (s : State) (g : Seg) (d : Down) (t : Txn), s.inReset = false → (s.seg g).down = some d → d.work = .routed false →
    s.txn = some t →
    let ending := d.detached = true ∨ d.after = .stop
    let noted := fun (ack : Bool) => s.notePresence g d.target ack
    let final := fun (k : OutcomeKind) => if t.taken.any Taken.final then t.taken else some { kind := k, final := true }
    let dn := fun (u : State) (e : Down) => u.setSeg g (onLines (u.seg g) e)
    let halted := { d with pos := .stop, after := .stop }
    (∀ ack, d.pos = .addr →
      (ending ∨ t.stage ≠ .address → exec (.targetAddressAnswer g ack) s = .next (dn (noted ack) halted))
      ∧ (¬ ending → t.stage = .address →
        exec (.targetAddressAnswer g true) s = .next { dn (noted true)
            { d with pos := if d.read then .readByte else .boundary } with
          txn := some { t with answered := true, stage := if d.read then .read else .write, phaseRefused := false,
                               count := 0 }
          port := { Port.idle with
            state := if d.read then .routedRead else .routedCt, hand := some t.slot, out := .ack, firstByte := d.read
            low := if d.read then none else some 0
            ten := match s.port.wait.bind Wait.ten with
              | some upper => some { slot := t.slot, upper := upper }
              | none => s.port.ten
            stretch := if d.read then some { elapsed := 0, limit := s.config.hold } else none } }
        ∧ exec (.targetAddressAnswer g false) s = .next { dn (noted false) halted with
          txn := some { t with stage := .tail, taken := final .targetNack }
          port := unaddressed (if (s.port.wait.bind Wait.ten).isSome then none else s.port.ten) .nack }))
    ∧ (∀ ack, d.pos = .byte →
      (ending ∨ t.stage ≠ .write → exec (.cutThroughByteAnswer g ack) s = .next (dn s halted))
      ∧ (¬ ending → t.stage = .write → exec (.cutThroughByteAnswer g ack) s = .next { dn s { d with pos := .boundary } with
          txn := some { t with count := t.count + 1, refused := t.refused || !ack, phaseRefused := !ack }
          port := clockFell { s.port with stretch := none, out := if ack then .ack else .nack } }))
    ∧ (∀ b, d.pos = .readByte →
      (ending → exec (.readByteClocked g b) s = .next (dn s halted))
      ∧ (¬ ending → ∀ read, d.after = .restart read → exec (.readByteClocked g b) s = .next (dn s
          { d with pos := .addr, read := read, first := false, out := addressByteOf d.target read, left := [],
                   after := .goOn }))
      ∧ (¬ ending → d.after = .goOn → t.stage = .read → exec (.readByteClocked g b) s = .next
          { dn s { d with pos := .readAck } with port := clockFell { s.port with stretch := none, out := .byte b } })
      ∧ (¬ ending → d.after = .goOn → t.stage ≠ .read →
          exec (.readByteClocked g b) s = .next (dn s { d with pos := .boundary })))

/-- FRAME_OUT_BYTE_ANSWER: after an ACK the next byte of the compound frame goes out; after the last one the frame
returns to the pool and the read address follows; a NACK of the address takes TARGET_NACK without FRAME_DROPPED, a NACK
of a byte WRITE_REFUSED with FRAME_DROPPED, and the read address is NACKed; once the upstream side has ended, the frame
is lost with FRAME_DROPPED and the transaction ends with STOP. WRITE_REFUSED is taken as provisional (R91, R92, R94, R96;
log entries 15 and 25). -/
def Obligations.CompoundFrameAnswers : Prop :=
  ∀ (s : State) (g : Seg) (d : Down) (t : Txn) (p : Fill) (ack : Bool), s.inReset = false → (s.seg g).down = some d →
    d.work = .routed true → (d.pos = .addr ∨ d.pos = .byte) → d.detached = false → s.txn = some t → t.frame.isSome →
    s.fill = some p →
    let noted := if d.pos = .addr then s.notePresence g d.target ack else s
    let dn := fun (u : State) (e : Down) => u.setSeg g (onLines (u.seg g) e)
    let halted := { d with pos := .stop, after := .stop }
    let closed := unaddressed (if (s.port.wait.bind Wait.ten).isSome then none else s.port.ten) .nack
    let taken := fun (k : OutcomeKind) (final : Bool) =>
      if t.taken.any Taken.final then t.taken else some { kind := k, final := final }
    let answered := t.answered || decide (d.pos = .addr)
    exec (.frameOutByteAnswer g ack) s = .next
      (if t.stage ≠ .frameOut then
        { dn ((fillReturned noted p).raiseSlot t.slot .frameDropped) halted with txn := some { t with frame := none } }
      else if ack then
        match d.left with
        | [] => { dn (fillReturned noted p) { d with work := .routed false, pos := .addr, read := true, first := false,
                                                     out := addressByteOf d.target true, left := [], after := .goOn } with
            txn := some { t with answered := answered, stage := .address, frame := none } }
        | b :: rest => { dn noted { d with pos := .byte, out := b, left := rest } with
            txn := some { t with answered := answered } }
      else if d.pos = .addr then { dn (fillReturned noted p) halted with
          txn := some { t with stage := .tail, taken := taken .targetNack true, frame := none }, port := closed }
      else { dn ((fillReturned noted p).raiseSlot t.slot .frameDropped) halted with
          txn := some { t with stage := .tail, refused := true, taken := taken .writeRefused false, frame := none }
          port := closed })

/-- The answers of a delivery, a probe and an identify read. A delivery sends its next byte after an ACK, its STOP after
the last, and at a NACK takes TARGET_NACK or WRITE_REFUSED; a probe sends its STOP and advances the cursor, or completes
the sweep after 77h with DISCOVERY_DONE and the revival of the quarantined slots whose target is PRESENT; an identify
read clocks one byte after an ACK, gives it NACK and sends its STOP. Each address answer enters the presence map (R22,
R110, R112, R147, R150, R152, R153, R156; log entries 11 and 12), but that of what a soft reset left on a segment that is
not OWNED any more does not (log entry 10). -/
def Obligations.OtherTransactionsAnswers : Prop :=
  ∀ (s : State) (g : Seg) (d : Down) (ack : Bool), s.inReset = false → (s.seg g).down = some d →
    let noted := s.notePresence g d.target ack
    let dn := fun (u : State) (e : Down) => u.setSeg g (onLines (u.seg g) e)
    let halted := { d with pos := .stop, after := .stop }
    let ending := d.detached = true ∨ d.after = .stop
    (∀ f k acked, d.work = .delivery f k acked →
      let answers := fun (u : State) (k' : OutcomeKind) (o : Host.Outcome State Fault Refusal) =>
        (ack = false → o = .next (dn u { halted with work := .delivery f (some (k.getD k')) false }))
        ∧ (ack = true → d.left = [] → o = .next (dn u { halted with work := .delivery f k true }))
        ∧ (ack = true → d.left ≠ [] → ending → o = .next (dn u halted))
        ∧ (ack = true → ¬ ending → ∀ b rest, d.left = b :: rest →
            o = .next (dn u { d with pos := .byte, out := b, left := rest }))
      (d.pos = .addr → answers noted .targetNack (exec (.deliveryAddressAnswer g ack) s))
      ∧ (d.pos = .byte → answers s .writeRefused (exec (.deliveryByteAnswer g ack) s)))
    ∧ (∀ sweeping, d.work = .probe sweeping → d.pos = .addr →
      let u := dn noted halted
      (sweeping = false ∨ d.detached = true ∨ (s.seg g).cursor = none → exec (.probeAnswer g ack) s = .next u)
      ∧ (sweeping = true → d.detached = false → ∀ c, (s.seg g).cursor = some c →
        (c ≠ 0x77 → exec (.probeAnswer g ack) s = .next (u.setSeg g { u.seg g with cursor := some (c + 1) }))
        ∧ (c = 0x77 → ∃ t, exec (.probeAnswer g ack) s = .next t
          ∧ t = { u with segs := u.segs.set g { u.seg g with cursor := none, fair := 0 }, slots := t.slots, att := t.att }
          ∧ t.segOwner g = raised (s.segOwner g) 4 ∧ (∀ h, h ≠ g → t.segOwner h = s.segOwner h)
          ∧ t.att.device = s.att.device ∧ t.att.unrouted = s.att.unrouted
          ∧ ∀ i,
            let revives := (s.slot i).state = .quarantined ∧ ∃ r, (s.slot i).cur = some r ∧ r.seg = g
              ∧ r.autoRevive = true ∧ (u.seg g).presenceOf r.target = .present
            (revives → t.slot i = { s.slot i with state := .live, faults := 0 }
              ∧ t.slotOwner i = raised (s.slotOwner i) 13)
            ∧ (¬ revives → t.slot i = s.slot i ∧ t.slotOwner i = s.slotOwner i))))
    ∧ (∀ a b, d.work = .identify a b →
      (d.pos = .addr →
        (ack = true → ¬ ending → exec (.identifyAddressAnswer g ack) s =
          .next (dn noted { d with work := .identify (some true) b, pos := .readByte }))
        ∧ (ack = false ∨ ending → exec (.identifyAddressAnswer g ack) s =
          .next (dn noted { halted with work := .identify (some ack) b })))
      ∧ (∀ byte, d.pos = .readByte → exec (.identifyDataByte g byte) s =
          .next (dn s { halted with work := .identify a (some byte) })))
    ∧ (noted = if (s.seg g).state = .owned ∧ 0x08 ≤ d.target ∧ d.target ≤ 0x77 then
        s.setSeg g { s.seg g with
          presence := s.seg g |>.presence.setIfInBounds (d.target.toNat - 8) (if ack then .present else .absent) }
      else s)

/-! ### The ends of transactions and the lines of a segment -/

/-- SEGMENT_STOP_COMPLETE: an OWNED segment leaves its transaction and enters IDLE, then the work reports, a held
configuration is installed, a deferred address phase is checked again, and the arbiter runs; after SEGMENT_CLEAR recovery
begins at attempt 1 in place of IDLE. What is reported: a routed transaction its taken outcome, a delivery its own or
COMPLETE, an identify read its result, a detached one nothing (R18, R26, R63, R86, R114, R124, R131, R141; log entries 8
and 10). A detached one that SEGMENT_CLEAR met before goes to recovery all the same (log entry 30). -/
def Obligations.StopCompleteEndsTransaction : Prop :=
  ∀ (s : State) (g : Seg) (d : Down), s.inReset = false → (s.seg g).down = some d → d.pos = .stop →
    let idle := s.setSeg g { s.seg g with state := .idle, down := none, busFree := none, low := none }
    let work := fun (v : State) =>
      if d.detached then v
      else match d.work with
        | .routed _ => match v.txn with
          | none => v
          | some t => reported v t ((t.taken.map Taken.kind).getD .aborted)
        | .delivery f k acked =>
          v.endDelivery g f (k.getD .complete) (decide (k = some .arbLost ∨ (k = some .aborted ∧ acked = false)))
        | .probe _ => v
        | .identify answer data => v.endIdentify g answer data
    let installed := fun (v : State) =>
      match (v.seg g).next with
      | none => v
      | some c =>
        let w := v.setSeg g { v.seg g with cfg := c, next := none }
        if c.enable then w else w.leaveService g .disabled
    ((s.seg g).state = .owned → d.clear = false → exec (.segmentStopComplete g) s =
        .next (((installed (work idle)).recheckDeferred).arbitrate g))
    ∧ ((s.seg g).state = .owned → d.clear = true → exec (.segmentStopComplete g) s = .next
        (((work (s.setSeg g { s.seg g with
          state := .recovering, down := none, attempt := 1, pulses := 0, busFree := none
          low := some 0 })).recheckDeferred).withdrawAt g))
    ∧ ((s.seg g).state = .external → exec (.segmentStopComplete g) s = .next ((installed idle).arbitrate g))
    ∧ ((s.seg g).state ≠ .owned → (s.seg g).state ≠ .external → exec (.segmentStopComplete g) s = .next
        (s.setSeg g { s.seg g with down := none }))

/-- ARBITRATION_LOSS in a byte that the part sends: the segment enters EXTERNAL without a STOP. A routed claim at its
first address byte waits again, one loss higher, up to the retry count, and ends with ARB_LOST otherwise; a delivery at
its address byte stays at the head, one loss higher, and ends with ARB_LOST otherwise; an outcome already taken stays; a
probe and an identify read are tried again. Upstream an answer still awaited is NACK, and a compound frame not yet
returned goes back to the pool with FRAME_DROPPED, whatever the outcome. The low-limit timer runs on, as another master
holds SDA low (R72, R81, R92, R112, R113, R132, R133, R134, R135, R145; log entries 4 and 16). -/
def Obligations.ArbitrationLossEndsOrRetries : Prop :=
  ∀ (s : State) (g : Seg) (d : Down), s.inReset = false → (s.seg g).down = some d → (s.seg g).state = .owned →
    (d.pos = .addr ∨ d.pos = .byte) →
    let u := s.setSeg g { s.seg g with
      state := .external, down := none, busFree := none, low := some ((s.seg g).low.getD 0) }
    let retry := (s.seg g).cfg.retry
    (d.detached = true → exec (.arbitrationLoss g) s = .next u)
    ∧ (d.detached = false →
      (∀ sweeping, d.work = .probe sweeping → exec (.arbitrationLoss g) s = .next u)
      ∧ (∀ a b, d.work = .identify a b → exec (.arbitrationLoss g) s = .next u)
      ∧ (∀ f acked, d.work = .delivery f none acked →
        (d.pos = .addr → (s.seg g).headLoss < retry → ∀ i, (s.frame f).owner = some i →
          exec (.arbitrationLoss g) s = .next
            ((u.setSeg g { u.seg g with headLoss := (s.seg g).headLoss + 1 }).examine i false))
        ∧ (d.pos = .byte ∨ retry ≤ (s.seg g).headLoss →
          exec (.arbitrationLoss g) s = .next (u.endDelivery g f .arbLost true)))
      ∧ (∀ f k acked, d.work = .delivery f (some k) acked →
        exec (.arbitrationLoss g) s = .next (u.endDelivery g f k (decide (k = .arbLost ∨ k = .aborted))))
      ∧ (∀ frameOut t, d.work = .routed frameOut → s.txn = some t →
        let taken := (t.taken.map Taken.kind).getD .aborted
        (t.stage = .tail → exec (.arbitrationLoss g) s = .next (reported (compoundLost u t) t taken).recheckDeferred)
        ∧ (t.stage = .address ∨ t.stage = .frameOut → d.first = true → d.pos = .addr →
          ∀ c, (s.seg g).claim = some c → c.loss < retry →
          exec (.arbitrationLoss g) s = .next { u.setSeg g { u.seg g with claim := some { c with loss := c.loss + 1 } } with
            txn := some { t with stage := .waiting } })
        ∧ (t.stage ≠ .tail → (d.first = false ∨ d.pos = .byte ∨ ∀ c, (s.seg g).claim = some c → retry ≤ c.loss) →
          exec (.arbitrationLoss g) s = .next (reported (compoundLost { u with port := portEndedUnder s t } t) t
            (if t.taken.any Taken.final then taken else .arbLost)).recheckDeferred)
        ∧ (t.stage = .address ∨ t.stage = .write ∨ t.stage = .frameOut → s.port.state ≠ .routedRead →
          portEndedUnder s t = unaddressed (if (s.port.wait.bind Wait.ten).isSome then none else s.port.ten) .nack)))

/-- The low limit: in IDLE and EXTERNAL, and in OWNED while the part itself does not hold SCL, the segment enters
RECOVERING at attempt 1 with LOW_TIMEOUT raised, its work ends and its waiting routed claim is withdrawn; elsewhere
nothing (log entry 1). A routed transaction takes TIMEOUT unless it holds a final outcome, an answer still awaited
upstream is NACK, or FFh at a read byte, a held phase is gone (log entry 27), and a compound frame not yet returned goes
back to the pool with FRAME_DROPPED; a delivery takes TIMEOUT, or keeps the ABORTED that SEGMENT_CLEAR gave it (log entry
17). A recovery pulse that forms a STOP ends in EXTERNAL with RECOVERED; the ninth without one ends the attempt, and
the third attempt, like a low limit in recovery, ends in FAULTED out of service with SEGMENT_FAULTED and a held
configuration installed. The low-limit timer starts again with each pulse, and a recovery that succeeds leaves the
segment to wait for the bus-free time (R71, R72, R92, R93, R112, R128, R135, R136, R137, R138, R139, R158; log entry
4). -/
def Obligations.LowLimitAndRecovery : Prop :=
  ∀ (s : State) (g : Seg), s.inReset = false →
    let x := s.seg g
    let u := (s.setSeg g { x with
      state := .recovering, down := none, attempt := 1, pulses := 0, busFree := none, low := some 0 }).setSegOwner g
      (raised (s.segOwner g) 0)
    let faulted := fun (v : State) => v.setSegOwner g (raised (v.segOwner g) 2)
    let fails := fun (o : Host.Outcome State Fault Refusal) =>
      (x.next = none → o = .next (faulted (s.leaveService g .faulted)))
      ∧ (∀ c, x.next = some c →
        let v := faulted (s.leaveService g .faulted)
        let w := v.setSeg g { v.seg g with cfg := c, next := none }
        o = .next (if c.enable then w else w.leaveService g .disabled))
    ((x.state = .idle ∨ x.state = .external) → x.down = none → exec (.segmentLowTimeout g) s = .next (u.withdrawAt g))
    ∧ ((x.state = .disabled ∨ x.state = .recovering ∨ x.state = .faulted) → exec (.segmentLowTimeout g) s = .next s)
    ∧ (x.state = .owned → ∀ d, x.down = some d →
      ((d.pos = .boundary ∨ d.pos = .readAck) → exec (.segmentLowTimeout g) s = .next s)
      ∧ (d.pos ≠ .boundary → d.pos ≠ .readAck →
        (d.detached = true ∨ (∃ sweeping, d.work = .probe sweeping) → exec (.segmentLowTimeout g) s = .next (u.withdrawAt g))
        ∧ (d.detached = false →
          (∀ a b, d.work = .identify a b → exec (.segmentLowTimeout g) s = .next ((u.endIdentify g a b).withdrawAt g))
          ∧ (∀ f k acked, d.work = .delivery f k acked → d.clear = false →
            exec (.segmentLowTimeout g) s = .next ((u.endDelivery g f .timeout false).withdrawAt g))
          ∧ (∀ f k acked, d.work = .delivery f k acked → d.clear = true →
            let kind := k.getD .aborted
            exec (.segmentLowTimeout g) s = .next ((u.endDelivery g f kind
              (decide (kind = .arbLost ∨ (kind = .aborted ∧ acked = false)))).withdrawAt g))
          ∧ (∀ frameOut, d.work = .routed frameOut → exec (.segmentLowTimeout g) s =
            .next ((u.failRouted .timeout).withdrawAt g)))))
    ∧ (∀ k t, s.txn = some t →
      let kind := if t.taken.any Taken.final then (t.taken.map Taken.kind).getD .aborted else k
      s.failRouted k = (reported (compoundLost { s with port := portEndedUnder s t } t) t kind).recheckDeferred)
    ∧ (x.state ≠ .recovering → (∀ b c, exec (.recoveryPulse g b c) s = .next s) ∧ exec (.recoveryLowLimit g) s = .next s)
    ∧ (x.state = .recovering →
      exec (.recoveryPulse g true true) s = .next ((s.setSeg g { x with
        state := .external, attempt := 0, pulses := 0, busFree := some 0, low := none }).setSegOwner g
        (raised (s.segOwner g) 1))
      ∧ (∀ high rose, ¬ (high = true ∧ rose = true) →
        (x.pulses + 1 < 9 → exec (.recoveryPulse g high rose) s =
          .next (s.setSeg g { x with pulses := x.pulses + 1, low := some 0 }))
        ∧ (9 ≤ x.pulses + 1 → x.attempt < 3 → exec (.recoveryPulse g high rose) s =
          .next (s.setSeg g { x with attempt := x.attempt + 1, pulses := 0, low := some 0 }))
        ∧ (9 ≤ x.pulses + 1 → 3 ≤ x.attempt → fails (exec (.recoveryPulse g high rose) s)))
      ∧ fails (exec (.recoveryLowLimit g) s))

/-- The lines of a segment: another master's START takes IDLE to EXTERNAL and leaves EXTERNAL as it is; the low-limit timer
starts there and the bus-free timer stops. Its STOP and the bus-free time take EXTERNAL to IDLE. A fall of the alert line
sets the identification count to 0 and lets the arbiter run; a rise is the level alone (R128, R135, R145, R154, R155; log
entry 4). In other states, on lines that still carry what SOFT_RESET ALL left (log entry 10), and for the fall of a line
that is low already, the rows do nothing (log entry 1). -/
def Obligations.SegmentLines : Prop :=
  ∀ (s : State) (g : Seg), s.inReset = false →
    let x := s.seg g
    let free := if x.state = .external ∧ x.down = none then s.enterIdle g else s
    exec (.externalStart g) s = .next
        (if x.state = .idle ∨ (x.state = .external ∧ x.down = none) then
          s.setSeg g { x with state := .external, busFree := none, low := some 0 }
        else s)
      ∧ exec (.externalStop g) s = .next free ∧ exec (.busFreeTime g) s = .next free
      ∧ exec (.segmentAlertFall g) s =
        .next (if x.alertLow then s else (s.setSeg g { x with alertLow := true, idCount := 0 }).arbitrate g)
      ∧ exec (.segmentAlertRise g) s = .next (s.setSeg g { x with alertLow := false })

/-- The arbiter of an IDLE segment grants in this order: a probe that four grants have passed, the routed claim or,
while its slot has queued frames, the queue head, the identify claim, the queue head, the probe; it grants nothing in
another state. A grant makes the segment OWNED with the START and address byte of its kind, and counts for the probe's
fairness; the low-limit timer starts with it. A compound frame with no data bytes sends nothing after the write address
byte, no check byte either (R78, R79, R91, R109, R111, R130, R131, R135, R150, R155, R156; log entry 4). -/
def Obligations.ArbiterGrantsInOrder : Prop :=
  ∀ (s : State) (g : Seg),
    let x := s.seg g
    let fair := if x.cursor.isSome then x.fair + 1 else x.fair
    let begun := fun (work : Work) (target : Addr7) (read : Bool) (left : List Byte) (n : Nat) =>
      s.setSeg g { x with
        state := .owned, fair := n, busFree := none, low := some 0
        down := some { work := work, pos := .addr, target := target, read := read, first := true,
                       out := BitVec.ofNat 8 (2 * target.toNat + read.toNat), left := left, after := .goOn,
                       detached := false, clear := false } }
    let sends := fun (r : RouteRecord) (f : FrameId) =>
      (s.frame f).bytes ++ if (s.frame f).verified = true ∧ r.check = .verifyRegen then
        [crc8 (BitVec.ofNat 8 (2 * r.target.toNat) :: (s.frame f).bytes)] else []
    let probes := ∀ c, x.cursor = some c → s.arbitrate g = begun (.probe true) c false [] 0
    let delivers := ∀ f rest i r, x.queue = f :: rest → (s.frame f).owner = some i → (s.slot i).cur = some r →
      s.arbitrate g = begun (.delivery f none false) r.target false (sends r f) fair
    let identifies := x.alertLow = true ∧ x.cfg.alertAddr ≠ 0 ∧ x.idCount < 4
    (x.state ≠ .idle → s.arbitrate g = s)
    ∧ (x.state = .idle → x.down = none →
      (x.fair = 4 → x.cursor.isSome → probes)
      ∧ (x.fair ≠ 4 ∨ x.cursor = none →
        (∀ c r, x.claim = some c → (s.slot c.slot).cur = some r → s.queued c.slot = 0 →
          (s.txn.bind Txn.frame = none → s.arbitrate g = { begun (.routed false) r.target c.read [] fair with
            txn := s.txn.map fun t => { t with stage := .address } })
          ∧ (∀ f, s.txn.bind Txn.frame = some f → s.arbitrate g = { begun (.routed true) r.target false
              (if (s.frame f).bytes = [] then [] else sends r f) fair with
            txn := s.txn.map fun t => { t with stage := .frameOut } }))
        ∧ (∀ c, x.claim = some c → s.queued c.slot ≠ 0 → x.queue ≠ [] → delivers)
        ∧ (x.claim = none → identifies →
          s.arbitrate g = begun (.identify none none) x.cfg.alertAddr true [] fair)
        ∧ (x.claim = none → ¬ identifies → delivers)
        ∧ (x.claim = none → ¬ identifies → x.queue = [] → probes)
        ∧ (x.claim = none → ¬ identifies → x.queue = [] → x.cursor = none → s.arbitrate g = s)))

/-- The end of an identify read: after an ACK and a data byte TARGET_ALERT on the slot whose current record names the
segment and the upper seven bits of the byte, or UNROUTED_ALERT with that address stored when there is none; after a
NACK ALERT_UNANSWERED; else no flag. The identification count rises by 1, and when it becomes 4 with the alert line low
ALERT_STUCK is raised (R6, R157, R158, R159, R164; log entry 11). -/
def Obligations.IdentifyResultNamesItsSource : Prop :=
  ∀ (s : State) (g : Seg) (data : Option Byte),
    let counted := fun (u : State) =>
      let v := u.setSeg g { u.seg g with idCount := (s.seg g).idCount + 1 }
      if (s.seg g).idCount + 1 = 4 ∧ (s.seg g).alertLow = true then v.setSegOwner g (raised (v.segOwner g) 8) else v
    (∀ b : Byte, data = some b → SlotShapes s → ClaimsDistinct s →
      (∀ i r, (s.slot i).cur = some r → r.seg = g → r.target.toNat = b.toNat / 2 →
        s.endIdentify g (some true) data = counted (s.setSlotOwner i (raised (s.slotOwner i) 11)))
      ∧ ((∀ i r, (s.slot i).cur = some r → ¬ (r.seg = g ∧ r.target.toNat = b.toNat / 2)) →
        s.endIdentify g (some true) data = counted { s with
          att := { s.att with
            unrouted := s.att.unrouted.set g (some (BitVec.ofNat 7 (b.toNat / 2)))
            segs := s.att.segs.set g (raised (s.segOwner g) 6) } }))
    ∧ (data = none → s.endIdentify g (some true) data = counted s)
    ∧ s.endIdentify g (some false) data = counted (s.setSegOwner g (raised (s.segOwner g) 7))
    ∧ s.endIdentify g none data = counted s

/-- A delivery that ends takes its frame out of the queue and back to the pool, with the head loss count 0 and
FRAME_DROPPED where it is called for, and reports. A waiting routed claim withdrawn at its segment is gone with its
record, its address is NACKed, and its slot is examined. A deferred address phase is checked again once no outcome is
owed: the claim is placed, or the address is NACKed with the flag of the check that failed; a compound frame that is not
sent is lost with FRAME_DROPPED (R63, R78, R80, R90, R92, R114, R136). -/
def Obligations.DeliveriesClaimsAndDeferralsEnd : Prop :=
  ∀ (s : State) (g : Seg),
    (∀ f k dropped i, (s.frame f).owner = some i →
      let u := (s.setSeg g { s.seg g with queue := (s.seg g).queue.erase f, headLoss := 0 }).setFrame f Frame.empty
      s.endDelivery g f k dropped =
        (if dropped then u.setSlotOwner i (raised (u.slotOwner i) 6) else u).report i g k dropped)
    ∧ ((∀ t, s.txn = some t → ¬ (t.stage = .waiting ∧ t.seg = g)) → s.withdrawAt g = s)
    ∧ (∀ t, s.txn = some t → t.stage = .waiting → t.seg = g →
      let ten := if (s.port.wait.bind Wait.ten).isSome then none else s.port.ten
      let u := { s.setSeg g { s.seg g with claim := none } with txn := none, port := unaddressed ten .nack }
      (t.frame = none → s.withdrawAt g = u.examine t.slot false)
      ∧ (t.frame.isSome → ∀ p, s.fill = some p →
        s.withdrawAt g = State.examine ((fillReturned u p).raiseSlot t.slot .frameDropped) t.slot false))
    ∧ (s.txn.isSome ∨ (∀ w, s.port.wait = some w → w.deferred = false) → s.recheckDeferred = s)
    ∧ (∀ w r, s.txn = none → s.port.wait = some w → w.deferred = true → (s.slot w.slot).cur = some r →
      s.recheckDeferred = match routedCheck s w.slot r w.read with
        | none => ({ s.setSeg r.seg { s.seg r.seg with claim := some { slot := w.slot, read := w.read, loss := 0 } } with
            port := { s.port with hand := some w.slot, wait := some { w with deferred := false } }
            txn := some { slot := w.slot, seg := r.seg, stage := .waiting, answered := false, refused := false,
                          phaseRefused := false, count := 0,
                          frame := if w.compound then s.fill.map Fill.frame else none, taken := none } }).arbitrate r.seg
        | some f =>
          let u := { s.raiseSlot w.slot f with port := unaddressed (if w.ten.isSome then none else s.port.ten) .nack }
          match w.compound, s.fill with
          | true, some p => (fillReturned u p).raiseSlot w.slot .frameDropped
          | true, none => u.raiseSlot w.slot .frameDropped
          | false, _ => u)

/-! ### Outcomes -/

/-- An outcome reported: COMPLETE counts one completion and clears the faults; TARGET_NACK, TIMEOUT and HOLD_EXPIRED
after the address answer are faults with their flags, the others are none; a fault below the limit raises the count, and
at the limit quarantines a LIVE or HELD slot without a pending record, whose queued frames are lost with FRAME_DROPPED
once and whose waiting claim is withdrawn. Then the pending record and the DRAINING exit are examined: a retire is
applied at marker NONE, a MODIFY at marker NONE with no queued frames, and a DRAINING slot with neither is freed with
RETIRED. A purge takes the frames of the slot alone: the others stay queued in order, the other segments and slots stay
as they are, and a head loss count becomes 0 only where the head left (R11, R13 to R21, R115, R116). -/
def Obligations.OutcomesAreCountedAndExamined : Prop :=
  ∀ (s : State) (i : SlotId) (g : Seg) (r : RouteRecord) (dropped : Bool), (s.slot i).cur = some r →
    let x := s.slot i
    let flagged := fun (b : Nat) => s.setSlotOwner i (raised (s.slotOwner i) b)
    let fault := fun (b : Nat) (u : State) =>
      (r.faultLimit ≤ x.faults → u = flagged b)
      ∧ (x.faults < r.faultLimit →
        (x.faults + 1 < r.faultLimit ∨ ¬ ((x.state = .live ∨ x.state = .held) ∧ x.pend = none) →
          u = (flagged b).setSlot i { x with faults := x.faults + 1 })
        ∧ (x.faults + 1 = r.faultLimit → (x.state = .live ∨ x.state = .held) → x.pend = none →
          (u.slot i) = { x with state := .quarantined, faults := r.faultLimit }
          ∧ (u.slotOwner i).flags.getLsbD 12 = true ∧ (u.slotOwner i).flags.getLsbD b = true
          ∧ (s.queued i ≠ 0 → (u.slotOwner i).flags.getLsbD 6 = true)
          ∧ (∀ j, j ≠ i → u.slot j = s.slot j ∧ u.slotOwner j = s.slotOwner j)
          ∧ (∀ h, u.seg h = { (if h = r.seg then withoutFramesOf s i (s.seg h) else s.seg h) with
              claim := if s.txn.any (fun t => decide (t.stage = .waiting ∧ t.slot = i ∧ t.seg = h)) then none
                else (s.seg h).claim })
          ∧ (∀ f ∈ (s.seg r.seg).queue, (s.frame f).owner = some i → u.frame f = Frame.empty)
          ∧ (∀ f, ((s.frame f).owner = some i → f ∉ (s.seg r.seg).queue) → (∀ p, s.fill = some p → p.frame ≠ f) →
              u.frame f = s.frame f)
          ∧ ((∀ t, s.txn = some t → t.stage = .waiting → t.slot ≠ i) → u.txn = s.txn ∧ u.fill = s.fill ∧ u.port = s.port)
          ∧ (∀ t, s.txn = some t → t.stage = .waiting → t.slot = i → u.txn = none
              ∧ u.port = unaddressed (if (s.port.wait.bind Wait.ten).isSome then none else s.port.ten) .nack
              ∧ u.fill = (if t.frame.isSome then none else s.fill)
              ∧ (t.frame.isSome → (u.slotOwner i).flags.getLsbD 6 = true
                ∧ ∀ p, s.fill = some p → u.frame p.frame = Frame.empty))))
    s.report i g .complete dropped =
        (s.setSlot i { x with completed := x.completed + 1, faults := 0 }).examine i dropped
      ∧ (∀ k, s.report i g k dropped = (s.count i g k).examine i dropped)
      ∧ fault 0 (s.count i g .targetNack) ∧ fault 1 (s.count i g .timeout) ∧ fault 2 (s.count i g (.holdExpired true))
      ∧ s.count i g (.holdExpired false) = flagged 2 ∧ s.count i g .writeRefused = flagged 3
      ∧ s.count i g .arbLost = s.setSegOwner g (raised (s.segOwner g) 3) ∧ s.count i g .aborted = s
      ∧ (x.pend = none → x.state ≠ .draining → s.examine i dropped = s)
      ∧ (x.state ≠ .draining → s.marker i ≠ .none → s.examine i dropped = s)
      ∧ (∀ q, x.pend = some (.modify q) → x.state ≠ .draining → s.queued i ≠ 0 → s.examine i dropped = s)
      ∧ (∀ q, x.pend = some (.modify q) → x.state ≠ .draining → s.marker i = .none → s.queued i = 0 →
          s.examine i dropped = s.setSlot i { x with cur := some q, pend := none, faults := 0 })
      ∧ (∀ choice, x.pend = some (.retire choice) → x.state ≠ .draining → s.marker i = .none →
          let u := s.examine i dropped
          (s.queued i ≠ 0 → choice = .drain → u = s.setSlot i { x with state := .draining, pend := none })
          ∧ (s.queued i = 0 ∨ choice = .discard → u.slot i = Slot.free
              ∧ (u.slotOwner i).flags = (if s.queued i ≠ 0 ∨ dropped then 0x40 else 0)
              ∧ (∀ h, u.seg h = if h = r.seg then withoutFramesOf s i (s.seg h) else s.seg h)
              ∧ (∀ f, u.frame f = if (s.frame f).owner = some i ∧ f ∈ (s.seg r.seg).queue then Frame.empty else s.frame f)
              ∧ (∀ j, j ≠ i → u.slot j = s.slot j ∧ u.slotOwner j = s.slotOwner j)
              ∧ u.txn = s.txn ∧ u.fill = s.fill ∧ u.port = s.port))
      ∧ (x.state = .draining → x.pend = none → s.marker i = .none → s.queued i = 0 →
          let u := s.examine i dropped
          u.slot i = Slot.free ∧ (u.slotOwner i).flags = (if dropped then 0x4040 else 0x4000)
          ∧ u.segs = s.segs ∧ u.frames = s.frames ∧ u.txn = s.txn ∧ u.fill = s.fill ∧ u.port = s.port
          ∧ ∀ j, j ≠ i → u.slot j = s.slot j ∧ u.slotOwner j = s.slotOwner j)
      ∧ (x.state = .draining → x.pend = none → (s.marker i ≠ .none ∨ s.queued i ≠ 0) → s.examine i dropped = s)

/-! ### Laws that every step keeps -/

/-- Right after device reset the laws that every step keeps hold (R2, R4, R11, R16, R20, R36, R73, R98, R100, R107, R122,
R126, R128, R131, R135, R161, R183). -/
def Obligations.ResetHoldsLaws : Prop :=
  StagingLaw State.reset ∧ SlotShapes State.reset ∧ ClaimsDistinct State.reset ∧ RecordsValid State.reset
    ∧ FaultLaw State.reset ∧ FramePlaces State.reset ∧ FlagsInRange State.reset ∧ ConfigInRange State.reset.config
    ∧ SegConfigsInRange State.reset ∧ PartLaws State.reset ∧ TimersRun State.reset

/-- L1 and L2 with the shapes of R1 and L8: no key and no pair is claimed by two slots after any step from a state in
which none is (R1, R4, R36). -/
def Obligations.StepKeepsClaimsDistinct : Prop :=
  ∀ s t : State, StagingLaw s → SlotShapes s → ClaimsDistinct s → step s = .next t →
    StagingLaw t ∧ SlotShapes t ∧ ClaimsDistinct t

/-- L3 and L4: every frame stays in one place, and a queue with its reservation holds at most 8, after any step (R98,
R100). -/
def Obligations.StepKeepsFramePlaces : Prop :=
  ∀ s t : State, FramePlaces s → step s = .next t → FramePlaces t

/-- L5, L6, L9, L10 and L12, with what ties slots, queues and segments to the port and the fill position: after any step
a queued frame belongs to a slot that is not FREE and whose record names the segment; a pending record and DRAINING stand
only while the slot is busy; at most one routed transaction is in progress; and a segment out of service holds nothing
(R11, R16, R63, R100, R107, R126, R131). The shapes of R1 and the laws L3, L4 and L8, which every step keeps by the
statements beside this one, are premises. -/
def Obligations.StepKeepsSlotsQueuesAndSegments : Prop :=
  ∀ s t : State, StagingLaw s → SlotShapes s → FramePlaces s → PartLaws s → step s = .next t → PartLaws t

/-- R2 and L7: every record of the table and of the staging list satisfies the limits, and every fault count stays
within the fault limit, equal to it only where the law allows, after any step (R2, R20, R37). -/
def Obligations.StepKeepsRecordsAndFaults : Prop :=
  ∀ s t : State, SlotShapes s → StagingLaw s → RecordsValid s → FaultLaw s → step s = .next t →
    RecordsValid t ∧ FaultLaw t

/-- The flag sets, the device configuration and every segment configuration stay within the values of R161, R183 and
R122 after any step. So does every timer within its limit, and each runs only where its rule lets it (R34, R54, R70, R73,
R120, R128, R135; log entries 2 and 4). -/
def Obligations.StepKeepsRanges : Prop :=
  (∀ s t : State, FlagsInRange s → ConfigInRange s.config → SegConfigsInRange s → step s = .next t →
    FlagsInRange t ∧ ConfigInRange t.config ∧ SegConfigsInRange t)
  ∧ ∀ s t : State, ConfigInRange s.config → SegConfigsInRange s → TimersRun s → step s = .next t → TimersRun t

end Statements
end

