-- ==== Sys2Proof/Laws/State.lean ====
section
/-! SUPPORT. What each update of the state changes: one lemma for each field of each update, and the reads after
writes of the parts that are indexed. -/

namespace Sys2Proof.Machine

/-! ### Segments, slots and frames -/

@[simp] theorem PerSegment.get_set_same {α : Type} (p : PerSegment α) (g : Seg) (x : α) : (p.set g x).get g = x := by
  cases g <;> rfl

theorem PerSegment.get_set_other {α : Type} (p : PerSegment α) (g h : Seg) (x : α) (ne : h ≠ g) :
    (p.set g x).get h = p.get h := by
  cases g <;> cases h <;> first | rfl | exact absurd rfl ne

theorem PerSegment.get_set {α : Type} (p : PerSegment α) (g h : Seg) (x : α) :
    (p.set g x).get h = if h = g then x else p.get h := by
  cases g <;> cases h <;> rfl

@[simp] theorem PerSegment.get_all {α : Type} (x : α) (g : Seg) : (PerSegment.all x).get g = x := by
  cases g <;> rfl

@[simp] theorem PerSegment.get_map {α β : Type} (f : α → β) (p : PerSegment α) (g : Seg) :
    (p.map f).get g = f (p.get g) := by
  cases g <;> rfl

theorem vector_get_set {α : Type} {n : Nat} (v : Vector α n) (i j : Fin n) (x : α) :
    (v.set i x).get j = if j = i then x else v.get j := by
  change (v.set i x)[j.val] = if j = i then x else v[j.val]
  simp only [Vector.getElem_set]
  by_cases h : j = i
  · subst h; simp
  · have : ¬ i.val = j.val := fun e => h (Fin.ext e.symm)
    simp [h, this]

@[simp] theorem vector_get_replicate {α : Type} {n : Nat} (x : α) (i : Fin n) : (Vector.replicate n x).get i = x := by
  change (Vector.replicate n x)[i.val] = x
  simp

theorem seg_setSeg (s : State) (g h : Seg) (x : Segment) :
    (s.setSeg g x).seg h = if h = g then x else s.seg h := PerSegment.get_set _ _ _ _

@[simp] theorem seg_setSeg_same (s : State) (g : Seg) (x : Segment) : (s.setSeg g x).seg g = x :=
  PerSegment.get_set_same _ _ _

theorem slot_setSlot (s : State) (i j : SlotId) (x : Slot) :
    (s.setSlot i x).slot j = if j = i then x else s.slot j := vector_get_set _ _ _ _

@[simp] theorem slot_setSlot_same (s : State) (i : SlotId) (x : Slot) : (s.setSlot i x).slot i = x := by
  simp [slot_setSlot]

theorem frame_setFrame (s : State) (f h : FrameId) (x : Frame) :
    (s.setFrame f x).frame h = if h = f then x else s.frame h := vector_get_set _ _ _ _

@[simp] theorem frame_setFrame_same (s : State) (f : FrameId) (x : Frame) : (s.setFrame f x).frame f = x := by
  simp [frame_setFrame]

theorem slotOwner_setSlotOwner (s : State) (i j : SlotId) (o : Owner) :
    (s.setSlotOwner i o).slotOwner j = if j = i then o else s.slotOwner j := vector_get_set _ _ _ _

theorem segOwner_setSegOwner (s : State) (g h : Seg) (o : Owner) :
    (s.setSegOwner g o).segOwner h = if h = g then o else s.segOwner h := PerSegment.get_set _ _ _ _

/-- A segment written back as it is changes nothing. -/
theorem PerSegment.set_get {α : Type} (p : PerSegment α) (g : Seg) : p.set g (p.get g) = p := by
  cases g <;> rfl

/-! ### Every field of every update -/

@[simp] theorem setSeg_inReset (s : State) (g : Seg) (x : Segment) : (s.setSeg g x).inReset = s.inReset := rfl
@[simp] theorem setSeg_mgmtAddr (s : State) (g : Seg) (x : Segment) : (s.setSeg g x).mgmtAddr = s.mgmtAddr := rfl
@[simp] theorem setSeg_config (s : State) (g : Seg) (x : Segment) : (s.setSeg g x).config = s.config := rfl
@[simp] theorem setSeg_resp (s : State) (g : Seg) (x : Segment) : (s.setSeg g x).resp = s.resp := rfl
@[simp] theorem setSeg_port (s : State) (g : Seg) (x : Segment) : (s.setSeg g x).port = s.port := rfl
@[simp] theorem setSeg_txn (s : State) (g : Seg) (x : Segment) : (s.setSeg g x).txn = s.txn := rfl
@[simp] theorem setSeg_slots (s : State) (g : Seg) (x : Segment) : (s.setSeg g x).slots = s.slots := rfl
@[simp] theorem setSeg_session (s : State) (g : Seg) (x : Segment) : (s.setSeg g x).session = s.session := rfl
@[simp] theorem setSeg_tokenCounter (s : State) (g : Seg) (x : Segment) : (s.setSeg g x).tokenCounter = s.tokenCounter := rfl
@[simp] theorem setSeg_staging (s : State) (g : Seg) (x : Segment) : (s.setSeg g x).staging = s.staging := rfl
@[simp] theorem setSeg_frames (s : State) (g : Seg) (x : Segment) : (s.setSeg g x).frames = s.frames := rfl
@[simp] theorem setSeg_fill (s : State) (g : Seg) (x : Segment) : (s.setSeg g x).fill = s.fill := rfl
@[simp] theorem setSeg_segs (s : State) (g : Seg) (x : Segment) : (s.setSeg g x).segs = s.segs.set g x := rfl
@[simp] theorem setSeg_att (s : State) (g : Seg) (x : Segment) : (s.setSeg g x).att = s.att := rfl
@[simp] theorem setSeg_pending (s : State) (g : Seg) (x : Segment) : (s.setSeg g x).pending = s.pending := rfl

@[simp] theorem setSlot_inReset (s : State) (i : SlotId) (x : Slot) : (s.setSlot i x).inReset = s.inReset := rfl
@[simp] theorem setSlot_mgmtAddr (s : State) (i : SlotId) (x : Slot) : (s.setSlot i x).mgmtAddr = s.mgmtAddr := rfl
@[simp] theorem setSlot_config (s : State) (i : SlotId) (x : Slot) : (s.setSlot i x).config = s.config := rfl
@[simp] theorem setSlot_resp (s : State) (i : SlotId) (x : Slot) : (s.setSlot i x).resp = s.resp := rfl
@[simp] theorem setSlot_port (s : State) (i : SlotId) (x : Slot) : (s.setSlot i x).port = s.port := rfl
@[simp] theorem setSlot_txn (s : State) (i : SlotId) (x : Slot) : (s.setSlot i x).txn = s.txn := rfl
@[simp] theorem setSlot_slots (s : State) (i : SlotId) (x : Slot) : (s.setSlot i x).slots = s.slots.set i x := rfl
@[simp] theorem setSlot_session (s : State) (i : SlotId) (x : Slot) : (s.setSlot i x).session = s.session := rfl
@[simp] theorem setSlot_tokenCounter (s : State) (i : SlotId) (x : Slot) : (s.setSlot i x).tokenCounter = s.tokenCounter := rfl
@[simp] theorem setSlot_staging (s : State) (i : SlotId) (x : Slot) : (s.setSlot i x).staging = s.staging := rfl
@[simp] theorem setSlot_frames (s : State) (i : SlotId) (x : Slot) : (s.setSlot i x).frames = s.frames := rfl
@[simp] theorem setSlot_fill (s : State) (i : SlotId) (x : Slot) : (s.setSlot i x).fill = s.fill := rfl
@[simp] theorem setSlot_segs (s : State) (i : SlotId) (x : Slot) : (s.setSlot i x).segs = s.segs := rfl
@[simp] theorem setSlot_att (s : State) (i : SlotId) (x : Slot) : (s.setSlot i x).att = s.att := rfl
@[simp] theorem setSlot_pending (s : State) (i : SlotId) (x : Slot) : (s.setSlot i x).pending = s.pending := rfl

@[simp] theorem setFrame_inReset (s : State) (f : FrameId) (x : Frame) : (s.setFrame f x).inReset = s.inReset := rfl
@[simp] theorem setFrame_mgmtAddr (s : State) (f : FrameId) (x : Frame) : (s.setFrame f x).mgmtAddr = s.mgmtAddr := rfl
@[simp] theorem setFrame_config (s : State) (f : FrameId) (x : Frame) : (s.setFrame f x).config = s.config := rfl
@[simp] theorem setFrame_resp (s : State) (f : FrameId) (x : Frame) : (s.setFrame f x).resp = s.resp := rfl
@[simp] theorem setFrame_port (s : State) (f : FrameId) (x : Frame) : (s.setFrame f x).port = s.port := rfl
@[simp] theorem setFrame_txn (s : State) (f : FrameId) (x : Frame) : (s.setFrame f x).txn = s.txn := rfl
@[simp] theorem setFrame_slots (s : State) (f : FrameId) (x : Frame) : (s.setFrame f x).slots = s.slots := rfl
@[simp] theorem setFrame_session (s : State) (f : FrameId) (x : Frame) : (s.setFrame f x).session = s.session := rfl
@[simp] theorem setFrame_tokenCounter (s : State) (f : FrameId) (x : Frame) : (s.setFrame f x).tokenCounter = s.tokenCounter := rfl
@[simp] theorem setFrame_staging (s : State) (f : FrameId) (x : Frame) : (s.setFrame f x).staging = s.staging := rfl
@[simp] theorem setFrame_frames (s : State) (f : FrameId) (x : Frame) : (s.setFrame f x).frames = s.frames.set f x := rfl
@[simp] theorem setFrame_fill (s : State) (f : FrameId) (x : Frame) : (s.setFrame f x).fill = s.fill := rfl
@[simp] theorem setFrame_segs (s : State) (f : FrameId) (x : Frame) : (s.setFrame f x).segs = s.segs := rfl
@[simp] theorem setFrame_att (s : State) (f : FrameId) (x : Frame) : (s.setFrame f x).att = s.att := rfl
@[simp] theorem setFrame_pending (s : State) (f : FrameId) (x : Frame) : (s.setFrame f x).pending = s.pending := rfl

@[simp] theorem respond_inReset (s : State) (st : Status) (tag : Byte) (data : List Byte) : (s.respond st tag data).inReset = s.inReset := rfl
@[simp] theorem respond_mgmtAddr (s : State) (st : Status) (tag : Byte) (data : List Byte) : (s.respond st tag data).mgmtAddr = s.mgmtAddr := rfl
@[simp] theorem respond_config (s : State) (st : Status) (tag : Byte) (data : List Byte) : (s.respond st tag data).config = s.config := rfl
@[simp] theorem respond_resp (s : State) (st : Status) (tag : Byte) (data : List Byte) : (s.respond st tag data).resp = { status := st, tag := tag, data := data } := rfl
@[simp] theorem respond_port (s : State) (st : Status) (tag : Byte) (data : List Byte) : (s.respond st tag data).port = s.port := rfl
@[simp] theorem respond_txn (s : State) (st : Status) (tag : Byte) (data : List Byte) : (s.respond st tag data).txn = s.txn := rfl
@[simp] theorem respond_slots (s : State) (st : Status) (tag : Byte) (data : List Byte) : (s.respond st tag data).slots = s.slots := rfl
@[simp] theorem respond_session (s : State) (st : Status) (tag : Byte) (data : List Byte) : (s.respond st tag data).session = s.session := rfl
@[simp] theorem respond_tokenCounter (s : State) (st : Status) (tag : Byte) (data : List Byte) : (s.respond st tag data).tokenCounter = s.tokenCounter := rfl
@[simp] theorem respond_staging (s : State) (st : Status) (tag : Byte) (data : List Byte) : (s.respond st tag data).staging = s.staging := rfl
@[simp] theorem respond_frames (s : State) (st : Status) (tag : Byte) (data : List Byte) : (s.respond st tag data).frames = s.frames := rfl
@[simp] theorem respond_fill (s : State) (st : Status) (tag : Byte) (data : List Byte) : (s.respond st tag data).fill = s.fill := rfl
@[simp] theorem respond_segs (s : State) (st : Status) (tag : Byte) (data : List Byte) : (s.respond st tag data).segs = s.segs := rfl
@[simp] theorem respond_att (s : State) (st : Status) (tag : Byte) (data : List Byte) : (s.respond st tag data).att = s.att := rfl
@[simp] theorem respond_pending (s : State) (st : Status) (tag : Byte) (data : List Byte) : (s.respond st tag data).pending = s.pending := rfl

@[simp] theorem setDeviceOwner_inReset (s : State) (o : Owner) : (s.setDeviceOwner o).inReset = s.inReset := rfl
@[simp] theorem setDeviceOwner_mgmtAddr (s : State) (o : Owner) : (s.setDeviceOwner o).mgmtAddr = s.mgmtAddr := rfl
@[simp] theorem setDeviceOwner_config (s : State) (o : Owner) : (s.setDeviceOwner o).config = s.config := rfl
@[simp] theorem setDeviceOwner_resp (s : State) (o : Owner) : (s.setDeviceOwner o).resp = s.resp := rfl
@[simp] theorem setDeviceOwner_port (s : State) (o : Owner) : (s.setDeviceOwner o).port = s.port := rfl
@[simp] theorem setDeviceOwner_txn (s : State) (o : Owner) : (s.setDeviceOwner o).txn = s.txn := rfl
@[simp] theorem setDeviceOwner_slots (s : State) (o : Owner) : (s.setDeviceOwner o).slots = s.slots := rfl
@[simp] theorem setDeviceOwner_session (s : State) (o : Owner) : (s.setDeviceOwner o).session = s.session := rfl
@[simp] theorem setDeviceOwner_tokenCounter (s : State) (o : Owner) : (s.setDeviceOwner o).tokenCounter = s.tokenCounter := rfl
@[simp] theorem setDeviceOwner_staging (s : State) (o : Owner) : (s.setDeviceOwner o).staging = s.staging := rfl
@[simp] theorem setDeviceOwner_frames (s : State) (o : Owner) : (s.setDeviceOwner o).frames = s.frames := rfl
@[simp] theorem setDeviceOwner_fill (s : State) (o : Owner) : (s.setDeviceOwner o).fill = s.fill := rfl
@[simp] theorem setDeviceOwner_segs (s : State) (o : Owner) : (s.setDeviceOwner o).segs = s.segs := rfl
@[simp] theorem setDeviceOwner_att (s : State) (o : Owner) : (s.setDeviceOwner o).att = { s.att with device := o } := rfl
@[simp] theorem setDeviceOwner_pending (s : State) (o : Owner) : (s.setDeviceOwner o).pending = s.pending := rfl

@[simp] theorem setSlotOwner_inReset (s : State) (i : SlotId) (o : Owner) : (s.setSlotOwner i o).inReset = s.inReset := rfl
@[simp] theorem setSlotOwner_mgmtAddr (s : State) (i : SlotId) (o : Owner) : (s.setSlotOwner i o).mgmtAddr = s.mgmtAddr := rfl
@[simp] theorem setSlotOwner_config (s : State) (i : SlotId) (o : Owner) : (s.setSlotOwner i o).config = s.config := rfl
@[simp] theorem setSlotOwner_resp (s : State) (i : SlotId) (o : Owner) : (s.setSlotOwner i o).resp = s.resp := rfl
@[simp] theorem setSlotOwner_port (s : State) (i : SlotId) (o : Owner) : (s.setSlotOwner i o).port = s.port := rfl
@[simp] theorem setSlotOwner_txn (s : State) (i : SlotId) (o : Owner) : (s.setSlotOwner i o).txn = s.txn := rfl
@[simp] theorem setSlotOwner_slots (s : State) (i : SlotId) (o : Owner) : (s.setSlotOwner i o).slots = s.slots := rfl
@[simp] theorem setSlotOwner_session (s : State) (i : SlotId) (o : Owner) : (s.setSlotOwner i o).session = s.session := rfl
@[simp] theorem setSlotOwner_tokenCounter (s : State) (i : SlotId) (o : Owner) : (s.setSlotOwner i o).tokenCounter = s.tokenCounter := rfl
@[simp] theorem setSlotOwner_staging (s : State) (i : SlotId) (o : Owner) : (s.setSlotOwner i o).staging = s.staging := rfl
@[simp] theorem setSlotOwner_frames (s : State) (i : SlotId) (o : Owner) : (s.setSlotOwner i o).frames = s.frames := rfl
@[simp] theorem setSlotOwner_fill (s : State) (i : SlotId) (o : Owner) : (s.setSlotOwner i o).fill = s.fill := rfl
@[simp] theorem setSlotOwner_segs (s : State) (i : SlotId) (o : Owner) : (s.setSlotOwner i o).segs = s.segs := rfl
@[simp] theorem setSlotOwner_att (s : State) (i : SlotId) (o : Owner) : (s.setSlotOwner i o).att = { s.att with slots := s.att.slots.set i o } := rfl
@[simp] theorem setSlotOwner_pending (s : State) (i : SlotId) (o : Owner) : (s.setSlotOwner i o).pending = s.pending := rfl

@[simp] theorem setSegOwner_inReset (s : State) (g : Seg) (o : Owner) : (s.setSegOwner g o).inReset = s.inReset := rfl
@[simp] theorem setSegOwner_mgmtAddr (s : State) (g : Seg) (o : Owner) : (s.setSegOwner g o).mgmtAddr = s.mgmtAddr := rfl
@[simp] theorem setSegOwner_config (s : State) (g : Seg) (o : Owner) : (s.setSegOwner g o).config = s.config := rfl
@[simp] theorem setSegOwner_resp (s : State) (g : Seg) (o : Owner) : (s.setSegOwner g o).resp = s.resp := rfl
@[simp] theorem setSegOwner_port (s : State) (g : Seg) (o : Owner) : (s.setSegOwner g o).port = s.port := rfl
@[simp] theorem setSegOwner_txn (s : State) (g : Seg) (o : Owner) : (s.setSegOwner g o).txn = s.txn := rfl
@[simp] theorem setSegOwner_slots (s : State) (g : Seg) (o : Owner) : (s.setSegOwner g o).slots = s.slots := rfl
@[simp] theorem setSegOwner_session (s : State) (g : Seg) (o : Owner) : (s.setSegOwner g o).session = s.session := rfl
@[simp] theorem setSegOwner_tokenCounter (s : State) (g : Seg) (o : Owner) : (s.setSegOwner g o).tokenCounter = s.tokenCounter := rfl
@[simp] theorem setSegOwner_staging (s : State) (g : Seg) (o : Owner) : (s.setSegOwner g o).staging = s.staging := rfl
@[simp] theorem setSegOwner_frames (s : State) (g : Seg) (o : Owner) : (s.setSegOwner g o).frames = s.frames := rfl
@[simp] theorem setSegOwner_fill (s : State) (g : Seg) (o : Owner) : (s.setSegOwner g o).fill = s.fill := rfl
@[simp] theorem setSegOwner_segs (s : State) (g : Seg) (o : Owner) : (s.setSegOwner g o).segs = s.segs := rfl
@[simp] theorem setSegOwner_att (s : State) (g : Seg) (o : Owner) : (s.setSegOwner g o).att = { s.att with segs := s.att.segs.set g o } := rfl
@[simp] theorem setSegOwner_pending (s : State) (g : Seg) (o : Owner) : (s.setSegOwner g o).pending = s.pending := rfl

@[simp] theorem withDown_state (x : Segment) (d : Down) : (x.withDown d).state = x.state := rfl
@[simp] theorem withDown_cfg (x : Segment) (d : Down) : (x.withDown d).cfg = x.cfg := rfl
@[simp] theorem withDown_next (x : Segment) (d : Down) : (x.withDown d).next = x.next := rfl
@[simp] theorem withDown_claim (x : Segment) (d : Down) : (x.withDown d).claim = x.claim := rfl
@[simp] theorem withDown_fair (x : Segment) (d : Down) : (x.withDown d).fair = x.fair := rfl
@[simp] theorem withDown_attempt (x : Segment) (d : Down) : (x.withDown d).attempt = x.attempt := rfl
@[simp] theorem withDown_pulses (x : Segment) (d : Down) : (x.withDown d).pulses = x.pulses := rfl
@[simp] theorem withDown_busFree (x : Segment) (d : Down) : (x.withDown d).busFree = x.busFree := rfl
@[simp] theorem withDown_queue (x : Segment) (d : Down) : (x.withDown d).queue = x.queue := rfl
@[simp] theorem withDown_headLoss (x : Segment) (d : Down) : (x.withDown d).headLoss = x.headLoss := rfl
@[simp] theorem withDown_presence (x : Segment) (d : Down) : (x.withDown d).presence = x.presence := rfl
@[simp] theorem withDown_cursor (x : Segment) (d : Down) : (x.withDown d).cursor = x.cursor := rfl
@[simp] theorem withDown_alertLow (x : Segment) (d : Down) : (x.withDown d).alertLow = x.alertLow := rfl
@[simp] theorem withDown_idCount (x : Segment) (d : Down) : (x.withDown d).idCount = x.idCount := rfl
@[simp] theorem withDown_down (x : Segment) (d : Down) : (x.withDown d).down = some d := rfl

@[simp] theorem mapDown_state (x : Segment) (f : Down → Down) : (x.mapDown f).state = x.state := rfl
@[simp] theorem mapDown_cfg (x : Segment) (f : Down → Down) : (x.mapDown f).cfg = x.cfg := rfl
@[simp] theorem mapDown_next (x : Segment) (f : Down → Down) : (x.mapDown f).next = x.next := rfl
@[simp] theorem mapDown_claim (x : Segment) (f : Down → Down) : (x.mapDown f).claim = x.claim := rfl
@[simp] theorem mapDown_fair (x : Segment) (f : Down → Down) : (x.mapDown f).fair = x.fair := rfl
@[simp] theorem mapDown_attempt (x : Segment) (f : Down → Down) : (x.mapDown f).attempt = x.attempt := rfl
@[simp] theorem mapDown_pulses (x : Segment) (f : Down → Down) : (x.mapDown f).pulses = x.pulses := rfl
@[simp] theorem mapDown_busFree (x : Segment) (f : Down → Down) : (x.mapDown f).busFree = x.busFree := rfl
@[simp] theorem mapDown_queue (x : Segment) (f : Down → Down) : (x.mapDown f).queue = x.queue := rfl
@[simp] theorem mapDown_headLoss (x : Segment) (f : Down → Down) : (x.mapDown f).headLoss = x.headLoss := rfl
@[simp] theorem mapDown_presence (x : Segment) (f : Down → Down) : (x.mapDown f).presence = x.presence := rfl
@[simp] theorem mapDown_cursor (x : Segment) (f : Down → Down) : (x.mapDown f).cursor = x.cursor := rfl
@[simp] theorem mapDown_alertLow (x : Segment) (f : Down → Down) : (x.mapDown f).alertLow = x.alertLow := rfl
@[simp] theorem mapDown_idCount (x : Segment) (f : Down → Down) : (x.mapDown f).idCount = x.idCount := rfl
@[simp] theorem mapDown_down (x : Segment) (f : Down → Down) : (x.mapDown f).down = x.down.map f := rfl

@[simp] theorem enabled_cfg (x : Segment) : x.enabled.cfg = x.cfg := rfl
@[simp] theorem enabled_next (x : Segment) : x.enabled.next = x.next := rfl
@[simp] theorem enabled_claim (x : Segment) : x.enabled.claim = x.claim := rfl
@[simp] theorem enabled_fair (x : Segment) : x.enabled.fair = x.fair := rfl
@[simp] theorem enabled_attempt (x : Segment) : x.enabled.attempt = x.attempt := rfl
@[simp] theorem enabled_pulses (x : Segment) : x.enabled.pulses = x.pulses := rfl
@[simp] theorem enabled_queue (x : Segment) : x.enabled.queue = x.queue := rfl
@[simp] theorem enabled_headLoss (x : Segment) : x.enabled.headLoss = x.headLoss := rfl
@[simp] theorem enabled_presence (x : Segment) : x.enabled.presence = x.presence := rfl
@[simp] theorem enabled_cursor (x : Segment) : x.enabled.cursor = x.cursor := rfl
@[simp] theorem enabled_alertLow (x : Segment) : x.enabled.alertLow = x.alertLow := rfl
@[simp] theorem enabled_state (x : Segment) : x.enabled.state = .external := rfl
@[simp] theorem enabled_idCount (x : Segment) : x.enabled.idCount = 0 := rfl
@[simp] theorem enabled_low (x : Segment) : x.enabled.low = none := rfl
@[simp] theorem enabled_down (x : Segment) : x.enabled.down = x.down := rfl

@[simp] theorem sclFalls_state (p : Port) : p.sclFalls.state = p.state := rfl
@[simp] theorem sclFalls_hand (p : Port) : p.sclFalls.hand = p.hand := rfl
@[simp] theorem sclFalls_held (p : Port) : p.sclFalls.held = p.held := rfl
@[simp] theorem sclFalls_ten (p : Port) : p.sclFalls.ten = p.ten := rfl
@[simp] theorem sclFalls_upper (p : Port) : p.sclFalls.upper = p.upper := rfl
@[simp] theorem sclFalls_repeated (p : Port) : p.sclFalls.repeated = p.repeated := rfl
@[simp] theorem sclFalls_asm (p : Port) : p.sclFalls.asm = p.asm := rfl
@[simp] theorem sclFalls_overlong (p : Port) : p.sclFalls.overlong = p.overlong := rfl
@[simp] theorem sclFalls_send (p : Port) : p.sclFalls.send = p.send := rfl
@[simp] theorem sclFalls_wait (p : Port) : p.sclFalls.wait = p.wait := rfl
@[simp] theorem sclFalls_stretch (p : Port) : p.sclFalls.stretch = p.stretch := rfl
@[simp] theorem sclFalls_firstByte (p : Port) : p.sclFalls.firstByte = p.firstByte := rfl
@[simp] theorem sclFalls_out (p : Port) : p.sclFalls.out = p.out := rfl

@[simp] theorem toIdle_inReset (s : State) : (s.toIdle).inReset = s.inReset := rfl
@[simp] theorem toIdle_mgmtAddr (s : State) : (s.toIdle).mgmtAddr = s.mgmtAddr := rfl
@[simp] theorem toIdle_config (s : State) : (s.toIdle).config = s.config := rfl
@[simp] theorem toIdle_resp (s : State) : (s.toIdle).resp = s.resp := rfl
@[simp] theorem toIdle_port (s : State) : (s.toIdle).port = Port.idle := rfl
@[simp] theorem toIdle_txn (s : State) : (s.toIdle).txn = s.txn := rfl
@[simp] theorem toIdle_slots (s : State) : (s.toIdle).slots = s.slots := rfl
@[simp] theorem toIdle_session (s : State) : (s.toIdle).session = s.session := rfl
@[simp] theorem toIdle_tokenCounter (s : State) : (s.toIdle).tokenCounter = s.tokenCounter := rfl
@[simp] theorem toIdle_staging (s : State) : (s.toIdle).staging = s.staging := rfl
@[simp] theorem toIdle_frames (s : State) : (s.toIdle).frames = s.frames := rfl
@[simp] theorem toIdle_fill (s : State) : (s.toIdle).fill = s.fill := rfl
@[simp] theorem toIdle_segs (s : State) : (s.toIdle).segs = s.segs := rfl
@[simp] theorem toIdle_att (s : State) : (s.toIdle).att = s.att := rfl
@[simp] theorem toIdle_pending (s : State) : (s.toIdle).pending = s.pending := rfl

end Sys2Proof.Machine
end

