-- ==== Sys2Proof/Laws/Keeps.lean ====
section
/-! SUPPORT. The shared frames of the commands keep any property of the state that the command within them keeps: one
lemma for each frame, so that a law of the state is proved for the commands alone. -/

namespace Sys2Proof.Machine

variable {P : State → Prop}

/-- A frame that answers without the command needs a property that answers do not touch. -/
def AnswersKeep (P : State → Prop) : Prop :=
  ∀ (s : State) (st : Status) (tag : Byte) (data : List Byte), P s → P (s.respond st tag data)

/-- A property that the upstream port has no part in. -/
def PortFree (P : State → Prop) : Prop := ∀ (s : State) (p : Port), P s → P { s with port := p }

/-- A property that the idle timer of the session has no part in. -/
def TimerFree (P : State → Prop) : Prop :=
  ∀ (s : State) (x : Session), s.session = some x → P s → P { s with session := some { x with elapsed := 0 } }

theorem running_keeps (f : State → State) (keeps : ∀ s, P s → P (f s)) (s : State) (h : P s) : P (s.running f) := by
  unfold State.running
  split
  · exact h
  · exact keeps s h

theorem withSlot_keeps (answers : AnswersKeep P) (tag slot : Byte) (f : SlotId → State) (s : State)
    (keeps : ∀ i, P (f i)) (h : P s) : P (s.withSlot tag slot f) := by
  unfold State.withSlot
  split
  · exact keeps _
  · exact answers _ _ _ _ h

theorem withSeg_keeps (answers : AnswersKeep P) (tag seg : Byte) (f : Seg → State) (s : State)
    (keeps : ∀ g, P (f g)) (h : P s) : P (s.withSeg tag seg f) := by
  unfold State.withSeg
  split
  · exact keeps _
  · exact answers _ _ _ _ h

theorem withToken_keeps (answers : AnswersKeep P) (timer : TimerFree P) (tag token : Byte) (f : State → State) (s : State)
    (keeps : ∀ t, P t → P (f t)) (h : P s) : P (s.withToken tag token f) := by
  unfold State.withToken
  split
  · exact answers _ _ _ _ h
  · rename_i x isOpen
    split
    · exact keeps _ (timer s x isOpen h)
    · exact answers _ _ _ _ h

theorem take0_keeps (answers : AnswersKeep P) (tag : Byte) (args : List Byte) (f : State → State) (s : State)
    (keeps : P (f s)) (h : P s) : P (s.take0 tag args f) := by
  unfold State.take0
  split
  · exact keeps
  · exact answers _ _ _ _ h

theorem take1_keeps (answers : AnswersKeep P) (tag : Byte) (args : List Byte) (f : Byte → State → State) (s : State)
    (keeps : ∀ a, P (f a s)) (h : P s) : P (s.take1 tag args f) := by
  unfold State.take1
  split
  · exact keeps _
  · exact answers _ _ _ _ h

theorem take2_keeps (answers : AnswersKeep P) (tag : Byte) (args : List Byte) (f : Byte → Byte → State → State) (s : State)
    (keeps : ∀ a b, P (f a b s)) (h : P s) : P (s.take2 tag args f) := by
  unfold State.take2
  split
  · exact keeps _ _
  · exact answers _ _ _ _ h

theorem toIdle_keeps (port : PortFree P) (s : State) (h : P s) : P s.toIdle := port s _ h

/-- A whole management write keeps what its command keeps (R59, R176). -/
theorem managementWrite_keeps (answers : AnswersKeep P) (port : PortFree P) (frame : List Byte) (f : State → State)
    (s : State) (keeps : ∀ t, P t → P (f t)) (h : P s) : P (s.managementWrite frame f) := by
  unfold State.managementWrite
  dsimp only
  split
  · exact h
  · refine toIdle_keeps port _ ?_
    split
    · exact answers _ _ _ _ (port s _ h)
    · exact keeps _ (port s _ h)

/-- The end of a management write keeps what the command of every code keeps (R59, R176). -/
theorem runWrite_keeps (answers : AnswersKeep P) (s : State) (keeps : ∀ code tag args, P (s.runCode code tag args))
    (h : P s) : P s.runWrite := by
  unfold State.runWrite
  split
  · exact h
  · split
    · exact answers _ _ _ _ h
    · exact keeps _ _ _

end Sys2Proof.Machine
end

