-- ==== Sys2Proof/Laws/PerInstr.lean ====
section
/-! SUPPORT. What holds of every command as syntax, one lemma for each constructor. -/

namespace Sys2Proof.Laws.FrameFits

/-- The frame of a well-formed management row fits the assembly buffer of 24 bytes (R59, R176). -/
def Statement (i : Instr) : Prop := i.wellFormed = true → ∀ b, i.frame? = some b → b.length ≤ 24

theorem of_args {code tag : Byte} {check : Option Byte} {args : List Byte} (fits : args.length ≤ 21) :
    (frameBytes code tag check args).length ≤ 24 := by
  cases check <;> simp [frameBytes] <;> omega

theorem start : Statement .start := by
  intro _ _ eq; cases eq

theorem repeatedStart : Statement .repeatedStart := by
  intro _ _ eq; cases eq

theorem stop : Statement .stop := by
  intro _ _ eq; cases eq

theorem misplacedCondition (condition : Condition) : Statement (.misplacedCondition condition) := by
  intro _ _ eq; cases eq

theorem addressByte (address : Addr7) (read : Bool) : Statement (.addressByte address read) := by
  intro _ _ eq; cases eq

theorem tenBitFirstByte (upper : BitVec 2) : Statement (.tenBitFirstByte upper) := by
  intro _ _ eq; cases eq

theorem tenBitSecondByte (lower : Byte) : Statement (.tenBitSecondByte lower) := by
  intro _ _ eq; cases eq

theorem tenBitReadForm (upper : BitVec 2) : Statement (.tenBitReadForm upper) := by
  intro _ _ eq; cases eq

theorem mgmtWriteByte (byte : Byte) : Statement (.mgmtWriteByte byte) := by
  intro _ _ eq; cases eq

theorem mgmtReadByte (masterAck : Bool) : Statement (.mgmtReadByte masterAck) := by
  intro _ _ eq; cases eq

theorem postedFillByte (byte : Byte) : Statement (.postedFillByte byte) := by
  intro _ _ eq; cases eq

theorem cutThroughDataByte (byte : Byte) : Statement (.cutThroughDataByte byte) := by
  intro _ _ eq; cases eq

theorem readDataAck (masterAck : Bool) : Statement (.readDataAck masterAck) := by
  intro _ _ eq; cases eq

theorem holdLimitExpiry : Statement .holdLimitExpiry := by
  intro _ _ eq; cases eq

theorem upstreamLowTimeout : Statement .upstreamLowTimeout := by
  intro _ _ eq; cases eq

theorem editExpiry : Statement .editExpiry := by
  intro _ _ eq; cases eq

theorem deviceIdent (tag : Byte) (check : Option Byte) : Statement (.deviceIdent tag check) := by
  intro _ b eq; cases eq; exact of_args (by simp)

theorem deviceConfigRead (tag : Byte) (check : Option Byte) : Statement (.deviceConfigRead tag check) := by
  intro _ b eq; cases eq; exact of_args (by simp)

theorem deviceConfigWrite (tag : Byte) (check : Option Byte) (hold idle required m3 m2 m1 m0 : Byte)
    : Statement (.deviceConfigWrite tag check hold idle required m3 m2 m1 m0) := by
  intro _ b eq; cases eq; exact of_args (by simp)

theorem softResetRoutes (tag : Byte) (check : Option Byte) : Statement (.softResetRoutes tag check) := by
  intro _ b eq; cases eq; exact of_args (by simp)

theorem softResetAll (tag : Byte) (check : Option Byte) : Statement (.softResetAll tag check) := by
  intro _ b eq; cases eq; exact of_args (by simp)

theorem editOpen (tag : Byte) (check : Option Byte) : Statement (.editOpen tag check) := by
  intro _ b eq; cases eq; exact of_args (by simp)

theorem editStage (tag : Byte) (check : Option Byte) (token slot action : Byte) (entry : List Byte) : Statement (.editStage tag check token slot action entry) := by
  intro wf b eq
  cases eq
  refine of_args ?_
  simp only [Instr.wellFormed, stageEntryLength] at wf
  split at wf
  · simp at wf; simp [wf]
  · split at wf
    · simp at wf; simp [wf]
    · simp at wf; rcases wf with h | h <;> simp [h]

theorem editUnstage (tag : Byte) (check : Option Byte) (token slot : Byte)
    : Statement (.editUnstage tag check token slot) := by
  intro _ b eq; cases eq; exact of_args (by simp)

theorem editList (tag : Byte) (check : Option Byte) (token : Byte) : Statement (.editList tag check token) := by
  intro _ b eq; cases eq; exact of_args (by simp)

theorem editCommit (tag : Byte) (check : Option Byte) (token : Byte) : Statement (.editCommit tag check token) := by
  intro _ b eq; cases eq; exact of_args (by simp)

theorem editAbandon (tag : Byte) (check : Option Byte) (token : Byte)
    : Statement (.editAbandon tag check token) := by
  intro _ b eq; cases eq; exact of_args (by simp)

theorem routeHold (tag : Byte) (check : Option Byte) (slot : Byte) : Statement (.routeHold tag check slot) := by
  intro _ b eq; cases eq; exact of_args (by simp)

theorem routeResume (tag : Byte) (check : Option Byte) (slot : Byte) : Statement (.routeResume tag check slot) := by
  intro _ b eq; cases eq; exact of_args (by simp)

theorem routeRelease (tag : Byte) (check : Option Byte) (slot : Byte)
    : Statement (.routeRelease tag check slot) := by
  intro _ b eq; cases eq; exact of_args (by simp)

theorem routeRead (tag : Byte) (check : Option Byte) (slot : Byte) : Statement (.routeRead tag check slot) := by
  intro _ b eq; cases eq; exact of_args (by simp)

theorem routeFindVirtual (tag : Byte) (check : Option Byte) (formAndUpper lower : Byte)
    : Statement (.routeFindVirtual tag check formAndUpper lower) := by
  intro _ b eq; cases eq; exact of_args (by simp)

theorem routeFindTarget (tag : Byte) (check : Option Byte) (segment target : Byte)
    : Statement (.routeFindTarget tag check segment target) := by
  intro _ b eq; cases eq; exact of_args (by simp)

theorem segmentConfig (tag : Byte) (check : Option Byte) (segment enable speed lowLimit retry alert : Byte)
    : Statement (.segmentConfig tag check segment enable speed lowLimit retry alert) := by
  intro _ b eq; cases eq; exact of_args (by simp)

theorem segmentClear (tag : Byte) (check : Option Byte) (segment : Byte)
    : Statement (.segmentClear tag check segment) := by
  intro _ b eq; cases eq; exact of_args (by simp)

theorem segmentStatus (tag : Byte) (check : Option Byte) (segment : Byte)
    : Statement (.segmentStatus tag check segment) := by
  intro _ b eq; cases eq; exact of_args (by simp)

theorem segmentDiscover (tag : Byte) (check : Option Byte) (segment : Byte)
    : Statement (.segmentDiscover tag check segment) := by
  intro _ b eq; cases eq; exact of_args (by simp)

theorem discoverCancel (tag : Byte) (check : Option Byte) (segment : Byte)
    : Statement (.discoverCancel tag check segment) := by
  intro _ b eq; cases eq; exact of_args (by simp)

theorem presenceRead (tag : Byte) (check : Option Byte) (segment : Byte)
    : Statement (.presenceRead tag check segment) := by
  intro _ b eq; cases eq; exact of_args (by simp)

theorem attentionSummary (tag : Byte) (check : Option Byte) : Statement (.attentionSummary tag check) := by
  intro _ b eq; cases eq; exact of_args (by simp)

theorem attentionRead (tag : Byte) (check : Option Byte) (kind number : Byte)
    : Statement (.attentionRead tag check kind number) := by
  intro _ b eq; cases eq; exact of_args (by simp)

theorem attentionAck (tag : Byte) (check : Option Byte) (kind number stamp high low : Byte)
    : Statement (.attentionAck tag check kind number stamp high low) := by
  intro _ b eq; cases eq; exact of_args (by simp)

theorem targetAddressAnswer (seg : Seg) (ack : Bool) : Statement (.targetAddressAnswer seg ack) := by
  intro _ _ eq; cases eq

theorem cutThroughByteAnswer (seg : Seg) (ack : Bool) : Statement (.cutThroughByteAnswer seg ack) := by
  intro _ _ eq; cases eq

theorem readByteClocked (seg : Seg) (byte : Byte) : Statement (.readByteClocked seg byte) := by
  intro _ _ eq; cases eq

theorem frameOutByteAnswer (seg : Seg) (ack : Bool) : Statement (.frameOutByteAnswer seg ack) := by
  intro _ _ eq; cases eq

theorem deliveryAddressAnswer (seg : Seg) (ack : Bool) : Statement (.deliveryAddressAnswer seg ack) := by
  intro _ _ eq; cases eq

theorem deliveryByteAnswer (seg : Seg) (ack : Bool) : Statement (.deliveryByteAnswer seg ack) := by
  intro _ _ eq; cases eq

theorem probeAnswer (seg : Seg) (ack : Bool) : Statement (.probeAnswer seg ack) := by
  intro _ _ eq; cases eq

theorem identifyAddressAnswer (seg : Seg) (ack : Bool) : Statement (.identifyAddressAnswer seg ack) := by
  intro _ _ eq; cases eq

theorem identifyDataByte (seg : Seg) (byte : Byte) : Statement (.identifyDataByte seg byte) := by
  intro _ _ eq; cases eq

theorem segmentStopComplete (seg : Seg) : Statement (.segmentStopComplete seg) := by
  intro _ _ eq; cases eq

theorem arbitrationLoss (seg : Seg) : Statement (.arbitrationLoss seg) := by
  intro _ _ eq; cases eq

theorem segmentLowTimeout (seg : Seg) : Statement (.segmentLowTimeout seg) := by
  intro _ _ eq; cases eq

theorem recoveryPulse (seg : Seg) (sdaHigh stopRose : Bool) : Statement (.recoveryPulse seg sdaHigh stopRose) := by
  intro _ _ eq; cases eq

theorem recoveryLowLimit (seg : Seg) : Statement (.recoveryLowLimit seg) := by
  intro _ _ eq; cases eq

theorem busFreeTime (seg : Seg) : Statement (.busFreeTime seg) := by
  intro _ _ eq; cases eq

theorem externalStart (seg : Seg) : Statement (.externalStart seg) := by
  intro _ _ eq; cases eq

theorem externalStop (seg : Seg) : Statement (.externalStop seg) := by
  intro _ _ eq; cases eq

theorem segmentAlertFall (seg : Seg) : Statement (.segmentAlertFall seg) := by
  intro _ _ eq; cases eq

theorem segmentAlertRise (seg : Seg) : Statement (.segmentAlertRise seg) := by
  intro _ _ eq; cases eq

theorem deviceReset : Statement .deviceReset := by
  intro _ _ eq; cases eq

theorem deviceResetEnd (adr1 adr0 : Bool) : Statement (.deviceResetEnd adr1 adr0) := by
  intro _ _ eq; cases eq

end Sys2Proof.Laws.FrameFits
end

