-- ==== Sys2Proof/Laws/Places.lean ====
section
/-! SUPPORT. Where the frames stand: every operation outside the commands keeps L3 and L4 (R98, R100). One lemma for
each operation. -/

namespace Sys2Proof.Machine

open Sys2Proof.Safety

/-- L3 and L4 as `FramePlaces` has them, over the parts of the state that they name. -/
def PlacesOk (segs : PerSegment Segment) (fill : Option Fill) : Prop :=
  (∀ g, (segs.get g).queue.Nodup)
    ∧ (∀ g h, g ≠ h → ∀ f ∈ (segs.get g).queue, f ∉ (segs.get h).queue)
    ∧ (∀ p, fill = some p → ∀ g, p.frame ∉ (segs.get g).queue)
    ∧ (∀ g, (segs.get g).queue.length + (if fill.any (fun p => p.seg = g) then 1 else 0) ≤ 8)

theorem framePlaces_iff (s : State) : FramePlaces s ↔ PlacesOk s.segs s.fill := Iff.rfl

/-- Frames that leave a queue, or stay in it in their order, break no law. -/
theorem PlacesOk.within {segs new : PerSegment Segment} {fill : Option Fill} (h : PlacesOk segs fill)
    (sub : ∀ g, (new.get g).queue.Sublist (segs.get g).queue) : PlacesOk new fill :=
  ⟨fun g => (h.1 g).sublist (sub g),
   fun g k ne f m n => h.2.1 g k ne f ((sub g).subset m) ((sub k).subset n),
   fun p e g m => h.2.2.1 p e g ((sub g).subset m),
   fun g => Nat.le_trans (Nat.add_le_add_right (sub g).length_le _) (h.2.2.2 g)⟩

@[simp] theorem PlacesOk.set {segs : PerSegment Segment} {fill : Option Fill} {g : Seg} {x : Segment}
    (h : PlacesOk segs fill) (sub : x.queue.Sublist (segs.get g).queue) : PlacesOk (segs.set g x) fill := by
  refine h.within fun k => ?_
  rw [PerSegment.get_set]
  split
  · rename_i e
    rw [e]
    exact sub
  · exact List.Sublist.refl _

/-- The fill position emptied breaks no law. -/
theorem PlacesOk.emptied {segs : PerSegment Segment} {fill : Option Fill} (h : PlacesOk segs fill) :
    PlacesOk segs none :=
  ⟨h.1, h.2.1, fun p e => by simp at e, fun g => Nat.le_trans (Nat.add_le_add_left (by simp) _) (h.2.2.2 g)⟩

/-- A frame that stands in no queue taken into the empty fill position, where the queue has a place left (R100). -/
theorem PlacesOk.reserved {segs : PerSegment Segment} (h : PlacesOk segs none) (p : Fill)
    (out : ∀ g, p.frame ∉ (segs.get g).queue) (room : (segs.get p.seg).queue.length < 8) : PlacesOk segs (some p) := by
  refine ⟨h.1, h.2.1, fun q e g => by cases e; exact out g, fun g => ?_⟩
  have := h.2.2.2 g
  by_cases e : p.seg = g
  · subst e
    simp
    omega
  · simp [e] at this ⊢
    exact this

/-- The frame of the fill position appended to its queue (R107). -/
theorem PlacesOk.queued {segs : PerSegment Segment} {p : Fill} (h : PlacesOk segs (some p)) (x : Segment)
    (last : x.queue = (segs.get p.seg).queue ++ [p.frame]) : PlacesOk (segs.set p.seg x) none := by
  have out := h.2.2.1 p rfl
  have members : ∀ g f, f ∈ ((segs.set p.seg x).get g).queue ↔ f ∈ (segs.get g).queue ∨ (g = p.seg ∧ f = p.frame) := by
    intro g f
    rw [PerSegment.get_set]
    split
    · rename_i e
      subst e
      simp [last]
    · rename_i e
      simp [e]
  refine ⟨fun g => ?_, fun g k ne f m n => ?_, fun q e => by simp at e, fun g => ?_⟩
  · rw [PerSegment.get_set]
    split
    · rw [last]
      exact List.nodup_append.2 ⟨h.1 _, by simp, fun a m b n e => by simp at n; subst n; subst e; exact out _ m⟩
    · exact h.1 g
  · rw [members] at m n
    rcases m with m | ⟨e, m⟩ <;> rcases n with n | ⟨e', n⟩
    · exact h.2.1 g k ne f m n
    · subst n
      exact out g m
    · subst m
      exact out k n
    · exact ne (e.trans e'.symm)
  · have := h.2.2.2 g
    rw [PerSegment.get_set]
    split
    · rename_i e
      subst e
      simp [last] at this ⊢
      omega
    · simp
      omega

/-- What a granted reservation says: the fill position is empty, the queue has a place left, and the frame is in no
queue (R98, R100). -/
theorem reservation_grants {s : State} {g : Seg} {f : FrameId} (granted : s.reservation g = some f) :
    s.fill = none ∧ (s.segs.get g).queue.length < 8 ∧ ∀ k, f ∉ (s.segs.get k).queue := by
  unfold State.reservation at granted
  split at granted
  · rename_i ok
    have free := List.find?_some granted
    simp only [State.frameOut, Bool.not_or, Bool.and_eq_true, Bool.not_eq_true', List.any_eq_false] at free
    refine ⟨Option.isNone_iff_eq_none.1 ok.1, Nat.lt_of_le_of_lt (Nat.le_add_right _ _) ok.2, fun k m => ?_⟩
    exact free.2 k (by cases k <;> decide) (by simpa [State.seg] using m)
  · simp at granted

theorem places_foldl {α : Type} (f : State → α → State)
    (step : ∀ s x, PlacesOk s.segs s.fill → PlacesOk (f s x).segs (f s x).fill) (l : List α) (s : State)
    (h : PlacesOk s.segs s.fill) : PlacesOk (l.foldl f s).segs (l.foldl f s).fill := by
  induction l generalizing s with
  | nil => exact h
  | cons x l ih => exact ih _ (step s x h)

/-- The presence map is no part of a queue. -/
@[simp] theorem note_queue (x : Segment) (a : Addr7) (ack : Bool) : (x.note a ack).queue = x.queue := by
  unfold Segment.note
  (repeat' split) <;> rfl

/-! ### One lemma for each operation -/

@[simp] theorem places_raiseSlot {s : State} (i : SlotId) (f : SlotFlag) (ok : PlacesOk s.segs s.fill) :
    PlacesOk (s.raiseSlot i f).segs (s.raiseSlot i f).fill := ok
@[simp] theorem places_raiseSlotIf {s : State} (c : Bool) (i : SlotId) (f : SlotFlag) (ok : PlacesOk s.segs s.fill) :
    PlacesOk (s.raiseSlotIf c i f).segs (s.raiseSlotIf c i f).fill := by
  unfold State.raiseSlotIf
  split <;> exact ok
@[simp] theorem places_raiseSeg {s : State} (g : Seg) (f : SegFlag) (ok : PlacesOk s.segs s.fill) :
    PlacesOk (s.raiseSeg g f).segs (s.raiseSeg g f).fill := ok
@[simp] theorem places_clearSlotFlags {s : State} (i : SlotId) (ok : PlacesOk s.segs s.fill) :
    PlacesOk (s.clearSlotFlags i).segs (s.clearSlotFlags i).fill := ok
@[simp] theorem places_clearFrame {s : State} (f : FrameId) (ok : PlacesOk s.segs s.fill) :
    PlacesOk (s.clearFrame f).segs (s.clearFrame f).fill := ok
@[simp] theorem places_setDown {s : State} (g : Seg) (d : Down) (ok : PlacesOk s.segs s.fill) :
    PlacesOk (s.setDown g d).segs (s.setDown g d).fill := by
  simp only [State.setDown]
  simp -implicitDefEqProofs (maxDischargeDepth := 20) [State.seg, ok]
@[simp] theorem places_notePresence {s : State} (g : Seg) (a : Addr7) (ack : Bool) (ok : PlacesOk s.segs s.fill) :
    PlacesOk (s.notePresence g a ack).segs (s.notePresence g a ack).fill := by
  simp only [State.notePresence]
  (repeat' split) <;> simp -implicitDefEqProofs (maxDischargeDepth := 20) [State.seg, ok]
@[simp] theorem places_mapDown {s : State} (g : Seg) (f : Down → Down) (ok : PlacesOk s.segs s.fill) :
    PlacesOk (s.mapDown g f).segs (s.mapDown g f).fill := by
  simp only [State.mapDown]
  simp -implicitDefEqProofs (maxDischargeDepth := 20) [State.seg, ok]
@[simp] theorem places_endDownAtBoundary {s : State} (g : Seg) (ok : PlacesOk s.segs s.fill) :
    PlacesOk (s.endDownAtBoundary g).segs (s.endDownAtBoundary g).fill := by
  simp only [State.endDownAtBoundary]
  simp -implicitDefEqProofs (maxDischargeDepth := 20) [ok]
@[simp] theorem places_own {s : State} (g : Seg) (d : Down) (n : Nat) (ok : PlacesOk s.segs s.fill) :
    PlacesOk (s.own g d n).segs (s.own g d n).fill := by
  simp only [State.own]
  simp -implicitDefEqProofs (maxDischargeDepth := 20) [State.seg, ok]
@[simp] theorem places_setStage {s : State} (st : Stage) (ok : PlacesOk s.segs s.fill) :
    PlacesOk (s.setStage st).segs (s.setStage st).fill := ok
@[simp] theorem places_grant {s : State} (g : Seg) (x : Grant) (ok : PlacesOk s.segs s.fill) :
    PlacesOk (s.grant g x).segs (s.grant g x).fill := by
  simp only [State.grant]
  (repeat' split) <;> simp -implicitDefEqProofs (maxDischargeDepth := 20) [ok]
@[simp] theorem places_arbitrate {s : State} (g : Seg) (ok : PlacesOk s.segs s.fill) :
    PlacesOk (s.arbitrate g).segs (s.arbitrate g).fill := by
  simp only [State.arbitrate]
  (repeat' split) <;> simp -implicitDefEqProofs (maxDischargeDepth := 20) [ok]
@[simp] theorem places_releaseFill {s : State} (ok : PlacesOk s.segs s.fill) :
    PlacesOk (s.releaseFill).segs (s.releaseFill).fill := by
  unfold State.releaseFill
  split
  · exact ok
  · exact ok.emptied
@[simp] theorem places_clearFrames {s : State} (fs : List FrameId) (ok : PlacesOk s.segs s.fill) :
    PlacesOk (s.clearFrames fs).segs (s.clearFrames fs).fill := places_foldl _ (fun _ _ k => places_clearFrame _ k) _ _ ok
@[simp] theorem places_purgeSlot {s : State} (i : SlotId) (ok : PlacesOk s.segs s.fill) :
    PlacesOk (s.purgeSlot i).segs (s.purgeSlot i).fill := by
  unfold State.purgeSlot
  split
  · exact ok
  · exact places_clearFrames _ (ok.set List.filter_sublist)
@[simp] theorem places_freeSlot {s : State} (i : SlotId) (a b : Bool) (ok : PlacesOk s.segs s.fill) :
    PlacesOk (s.freeSlot i a b).segs (s.freeSlot i a b).fill := by
  simp only [State.freeSlot]
  simp -implicitDefEqProofs (maxDischargeDepth := 20) [ok]
@[simp] theorem places_applyRetire {s : State} (i : SlotId) (c : Drain) (b : Bool) (ok : PlacesOk s.segs s.fill) :
    PlacesOk (s.applyRetire i c b).segs (s.applyRetire i c b).fill := by
  simp only [State.applyRetire]
  (repeat' split) <;> simp -implicitDefEqProofs (maxDischargeDepth := 20) [ok]
@[simp] theorem places_applyModify {s : State} (i : SlotId) (r : RouteRecord) (ok : PlacesOk s.segs s.fill) :
    PlacesOk (s.applyModify i r).segs (s.applyModify i r).fill := ok
@[simp] theorem places_examinePending {s : State} (i : SlotId) (b : Bool) (ok : PlacesOk s.segs s.fill) :
    PlacesOk (s.examinePending i b).segs (s.examinePending i b).fill := by
  simp only [State.examinePending]
  (repeat' split) <;> simp -implicitDefEqProofs (maxDischargeDepth := 20) [ok]
@[simp] theorem places_drainingExit {s : State} (i : SlotId) (b : Bool) (ok : PlacesOk s.segs s.fill) :
    PlacesOk (s.drainingExit i b).segs (s.drainingExit i b).fill := by
  simp only [State.drainingExit]
  (repeat' split) <;> simp -implicitDefEqProofs (maxDischargeDepth := 20) [ok]
@[simp] theorem places_examine {s : State} (i : SlotId) (b : Bool) (ok : PlacesOk s.segs s.fill) :
    PlacesOk (s.examine i b).segs (s.examine i b).fill := by
  simp only [State.examine]
  simp -implicitDefEqProofs (maxDischargeDepth := 20) [ok]
@[simp] theorem places_nackUp {s : State} (b : Bool) (ok : PlacesOk s.segs s.fill) :
    PlacesOk (s.nackUp b).segs (s.nackUp b).fill := ok
@[simp] theorem places_breakUp {s : State} (ok : PlacesOk s.segs s.fill) :
    PlacesOk (s.breakUp).segs (s.breakUp).fill := by
  unfold State.breakUp
  split <;> exact ok
@[simp] theorem places_dropCompound {s : State} (t : Txn) (ok : PlacesOk s.segs s.fill) :
    PlacesOk (s.dropCompound t).segs (s.dropCompound t).fill := by
  simp only [State.dropCompound]
  (repeat' split) <;> simp -implicitDefEqProofs (maxDischargeDepth := 20) [ok]
@[simp] theorem places_dropTxn {s : State} (t : Txn) (ok : PlacesOk s.segs s.fill) :
    PlacesOk (s.dropTxn t).segs (s.dropTxn t).fill := by
  simp only [State.dropTxn]
  simp -implicitDefEqProofs (maxDischargeDepth := 20) [State.seg, ok]
@[simp] theorem places_withdraw {s : State} (t : Txn) (ok : PlacesOk s.segs s.fill) :
    PlacesOk (s.withdraw t).segs (s.withdraw t).fill := by
  simp only [State.withdraw]
  simp -implicitDefEqProofs (maxDischargeDepth := 20) [ok]
@[simp] theorem places_abortWaiting {s : State} (p : Txn → Bool) (ok : PlacesOk s.segs s.fill) :
    PlacesOk (s.abortWaiting p).segs (s.abortWaiting p).fill := by
  simp only [State.abortWaiting]
  (repeat' split) <;> simp -implicitDefEqProofs (maxDischargeDepth := 20) [ok]
@[simp] theorem places_placeClaim {s : State} (w : Wait) (ok : PlacesOk s.segs s.fill) :
    PlacesOk (s.placeClaim w).segs (s.placeClaim w).fill := by
  simp only [State.placeClaim]
  (repeat' split) <;> simp -implicitDefEqProofs (maxDischargeDepth := 20) [State.seg, ok]
@[simp] theorem places_dropDeferred {s : State} (w : Wait) (ok : PlacesOk s.segs s.fill) :
    PlacesOk (s.dropDeferred w).segs (s.dropDeferred w).fill := by
  simp only [State.dropDeferred]
  (repeat' split) <;> simp -implicitDefEqProofs (maxDischargeDepth := 20) [ok]
@[simp] theorem places_recheckDeferred {s : State} (ok : PlacesOk s.segs s.fill) :
    PlacesOk (s.recheckDeferred).segs (s.recheckDeferred).fill := by
  simp only [State.recheckDeferred]
  (repeat' split) <;> simp -implicitDefEqProofs (maxDischargeDepth := 20) [ok]
@[simp] theorem places_quarantine {s : State} (i : SlotId) (ok : PlacesOk s.segs s.fill) :
    PlacesOk (s.quarantine i).segs (s.quarantine i).fill := by
  simp only [State.quarantine]
  simp -implicitDefEqProofs (maxDischargeDepth := 20) [ok]
@[simp] theorem places_countFault {s : State} (i : SlotId) (ok : PlacesOk s.segs s.fill) :
    PlacesOk (s.countFault i).segs (s.countFault i).fill := by
  simp only [State.countFault]
  (repeat' split) <;> simp -implicitDefEqProofs (maxDischargeDepth := 20) [ok]
@[simp] theorem places_count {s : State} (i : SlotId) (g : Seg) (k : OutcomeKind) (ok : PlacesOk s.segs s.fill) :
    PlacesOk (s.count i g k).segs (s.count i g k).fill := by
  cases k with
  | holdExpired b => cases b <;> simp -implicitDefEqProofs (maxDischargeDepth := 20) [ok, State.count]
  | _ => simp -implicitDefEqProofs (maxDischargeDepth := 20) [ok, State.count]
@[simp] theorem places_report {s : State} (i : SlotId) (g : Seg) (k : OutcomeKind) (b : Bool) (ok : PlacesOk s.segs s.fill) :
    PlacesOk (s.report i g k b).segs (s.report i g k b).fill := by
  simp only [State.report]
  simp -implicitDefEqProofs (maxDischargeDepth := 20) [ok]
@[simp] theorem places_reportTxn {s : State} (k : OutcomeKind) (ok : PlacesOk s.segs s.fill) :
    PlacesOk (s.reportTxn k).segs (s.reportTxn k).fill := by
  simp only [State.reportTxn]
  (repeat' split) <;> simp -implicitDefEqProofs (maxDischargeDepth := 20) [ok]
@[simp] theorem places_endTxn {s : State} (k : OutcomeKind) (ok : PlacesOk s.segs s.fill) :
    PlacesOk (s.endTxn k).segs (s.endTxn k).fill := by
  simp only [State.endTxn]
  (repeat' split) <;> simp -implicitDefEqProofs (maxDischargeDepth := 20) [ok]
@[simp] theorem places_endDelivery {s : State} (g : Seg) (f : FrameId) (k : OutcomeKind) (b : Bool) (ok : PlacesOk s.segs s.fill) :
    PlacesOk (s.endDelivery g f k b).segs (s.endDelivery g f k b).fill := by
  have base : PlacesOk ((s.setSeg g { s.seg g with queue := (s.seg g).queue.erase f, headLoss := 0 }).clearFrame f).segs
      ((s.setSeg g { s.seg g with queue := (s.seg g).queue.erase f, headLoss := 0 }).clearFrame f).fill :=
    places_clearFrame f (ok.set List.erase_sublist)
  unfold State.endDelivery
  dsimp only
  split
  · exact base
  · exact places_report _ _ _ _ (places_raiseSlotIf _ _ _ base)
@[simp] theorem places_endUpstream {s : State} (f : Txn → Txn) (ok : PlacesOk s.segs s.fill) :
    PlacesOk (s.endUpstream f).segs (s.endUpstream f).fill := by
  simp only [State.endUpstream]
  (repeat' split) <;> simp -implicitDefEqProofs (maxDischargeDepth := 20) [ok]
@[simp] theorem places_lostFrames {s : State} (i : SlotId) (ok : PlacesOk s.segs s.fill) :
    PlacesOk (s.lostFrames i).segs (s.lostFrames i).fill := by
  simp only [State.lostFrames]
  (repeat' split) <;> simp -implicitDefEqProofs (maxDischargeDepth := 20) [ok]
@[simp] theorem places_purgeSegment {s : State} (g : Seg) (ok : PlacesOk s.segs s.fill) :
    PlacesOk (s.purgeSegment g).segs (s.purgeSegment g).fill := by
  unfold State.purgeSegment
  exact places_foldl _ (fun _ i k => places_lostFrames i k) _ _ (places_clearFrames _ (ok.set (List.nil_sublist _)))
@[simp] theorem places_orphanFill {s : State} (g : Seg) (ok : PlacesOk s.segs s.fill) :
    PlacesOk (s.orphanFill g).segs (s.orphanFill g).fill := by
  simp only [State.orphanFill]
  (repeat' split) <;> simp -implicitDefEqProofs (maxDischargeDepth := 20) [ok]
@[simp] theorem places_abortDiscovery {s : State} (g : Seg) (ok : PlacesOk s.segs s.fill) :
    PlacesOk (s.abortDiscovery g).segs (s.abortDiscovery g).fill := by
  unfold State.abortDiscovery
  split <;> exact ok
@[simp] theorem places_leaveService {s : State} (g : Seg) (x : SegState) (ok : PlacesOk s.segs s.fill) :
    PlacesOk (s.leaveService g x).segs (s.leaveService g x).fill := by
  simp only [State.leaveService]
  simp -implicitDefEqProofs (maxDischargeDepth := 20) [State.seg, ok]
@[simp] theorem places_install {s : State} (g : Seg) (c : SegConfig) (ok : PlacesOk s.segs s.fill) :
    PlacesOk (s.install g c).segs (s.install g c).fill := by
  simp only [State.install]
  (repeat' split) <;> simp -implicitDefEqProofs (maxDischargeDepth := 20) [State.seg, ok]
@[simp] theorem places_installNext {s : State} (g : Seg) (ok : PlacesOk s.segs s.fill) :
    PlacesOk (s.installNext g).segs (s.installNext g).fill := by
  simp only [State.installNext]
  (repeat' split) <;> simp -implicitDefEqProofs (maxDischargeDepth := 20) [ok]
@[simp] theorem places_freeLines {s : State} (g : Seg) (ok : PlacesOk s.segs s.fill) :
    PlacesOk (s.freeLines g).segs (s.freeLines g).fill := by
  simp only [State.freeLines]
  simp -implicitDefEqProofs (maxDischargeDepth := 20) [State.seg, ok]
@[simp] theorem places_enterIdle {s : State} (g : Seg) (ok : PlacesOk s.segs s.fill) :
    PlacesOk (s.enterIdle g).segs (s.enterIdle g).fill := by
  simp only [State.enterIdle]
  simp -implicitDefEqProofs (maxDischargeDepth := 20) [State.seg, ok]
@[simp] theorem places_beginRecovery {s : State} (g : Seg) (ok : PlacesOk s.segs s.fill) :
    PlacesOk (s.beginRecovery g).segs (s.beginRecovery g).fill := by
  simp only [State.beginRecovery]
  simp -implicitDefEqProofs (maxDischargeDepth := 20) [State.seg, ok]
@[simp] theorem places_withdrawAt {s : State} (g : Seg) (ok : PlacesOk s.segs s.fill) :
    PlacesOk (s.withdrawAt g).segs (s.withdrawAt g).fill := by
  simp only [State.withdrawAt]
  simp -implicitDefEqProofs (maxDischargeDepth := 20) [ok]
@[simp] theorem places_failRecovery {s : State} (g : Seg) (ok : PlacesOk s.segs s.fill) :
    PlacesOk (s.failRecovery g).segs (s.failRecovery g).fill := by
  simp only [State.failRecovery]
  simp -implicitDefEqProofs (maxDischargeDepth := 20) [ok]
@[simp] theorem places_succeedRecovery {s : State} (g : Seg) (ok : PlacesOk s.segs s.fill) :
    PlacesOk (s.succeedRecovery g).segs (s.succeedRecovery g).fill := by
  simp only [State.succeedRecovery]
  simp -implicitDefEqProofs (maxDischargeDepth := 20) [State.seg, ok]
@[simp] theorem places_identifyResult {s : State} (g : Seg) (a : Option Bool) (b : Option Byte) (ok : PlacesOk s.segs s.fill) :
    PlacesOk (s.identifyResult g a b).segs (s.identifyResult g a b).fill := by
  simp only [State.identifyResult]
  (repeat' split) <;> simp -implicitDefEqProofs (maxDischargeDepth := 20) [ok]
@[simp] theorem places_endIdentify {s : State} (g : Seg) (a : Option Bool) (b : Option Byte) (ok : PlacesOk s.segs s.fill) :
    PlacesOk (s.endIdentify g a b).segs (s.endIdentify g a b).fill := by
  simp only [State.endIdentify]
  (repeat' split) <;> simp -implicitDefEqProofs (maxDischargeDepth := 20) [State.seg, ok]
@[simp] theorem places_reviveSlot {s : State} (g : Seg) (i : SlotId) (ok : PlacesOk s.segs s.fill) :
    PlacesOk (State.reviveSlot g s i).segs (State.reviveSlot g s i).fill := by
  simp only [State.reviveSlot]
  (repeat' split) <;> simp -implicitDefEqProofs (maxDischargeDepth := 20) [ok]
@[simp] theorem places_completeDiscovery {s : State} (g : Seg) (ok : PlacesOk s.segs s.fill) :
    PlacesOk (s.completeDiscovery g).segs (s.completeDiscovery g).fill := by
  unfold State.completeDiscovery
  exact places_foldl _ (fun _ i k => places_reviveSlot g i k) _ _ (places_raiseSeg _ _ (ok.set (List.Sublist.refl _)))
@[simp] theorem places_advanceCursor {s : State} (g : Seg) (ok : PlacesOk s.segs s.fill) :
    PlacesOk (s.advanceCursor g).segs (s.advanceCursor g).fill := by
  simp only [State.advanceCursor]
  (repeat' split) <;> simp -implicitDefEqProofs (maxDischargeDepth := 20) [State.seg, ok]
@[simp] theorem places_dropDown {s : State} (g : Seg) (ok : PlacesOk s.segs s.fill) :
    PlacesOk (s.dropDown g).segs (s.dropDown g).fill := by
  simp only [State.dropDown]
  simp -implicitDefEqProofs (maxDischargeDepth := 20) [State.seg, ok]
@[simp] theorem places_finishWork {s : State} (g : Seg) (d : Down) (ok : PlacesOk s.segs s.fill) :
    PlacesOk (s.finishWork g d).segs (s.finishWork g d).fill := by
  simp only [State.finishWork]
  (repeat' split) <;> simp -implicitDefEqProofs (maxDischargeDepth := 20) [ok]
@[simp] theorem places_beginStretch {s : State} (ok : PlacesOk s.segs s.fill) :
    PlacesOk (s.beginStretch).segs (s.beginStretch).fill := ok
@[simp] theorem places_endStretch {s : State} (a : UpOut) (ok : PlacesOk s.segs s.fill) :
    PlacesOk (s.endStretch a).segs (s.endStretch a).fill := ok
@[simp] theorem places_rejectFill {s : State} (i : SlotId) (f : SlotFlag) (ok : PlacesOk s.segs s.fill) :
    PlacesOk (s.rejectFill i f).segs (s.rejectFill i f).fill := by
  simp only [State.rejectFill]
  simp -implicitDefEqProofs (maxDischargeDepth := 20) [ok]
theorem places_queueFill {s : State} (p : Fill) (held : s.fill = some p) (ok : PlacesOk s.segs s.fill) :
    PlacesOk (s.queueFill p).segs (s.queueFill p).fill := by
  unfold State.queueFill
  rw [held] at ok
  exact places_arbitrate _ (ok.queued _ rfl)
@[simp] theorem places_closeFill {s : State} (ok : PlacesOk s.segs s.fill) :
    PlacesOk (s.closeFill).segs (s.closeFill).fill := by
  unfold State.closeFill
  dsimp only
  split
  · exact ok
  · rename_i p held
    (repeat' split)
    · exact places_releaseFill ok
    · exact places_rejectFill _ _ ok
    · exact places_rejectFill _ _ ok
    · exact places_rejectFill _ _ ok
    · exact places_rejectFill _ _ ok
    · exact places_queueFill p held ok
@[simp] theorem places_endHeld {s : State} (ok : PlacesOk s.segs s.fill) :
    PlacesOk (s.endHeld).segs (s.endHeld).fill := by
  simp only [State.endHeld]
  (repeat' split) <;> simp -implicitDefEqProofs (maxDischargeDepth := 20) [ok]
@[simp] theorem places_withhold {s : State} (w : Wait) (ok : PlacesOk s.segs s.fill) :
    PlacesOk (s.withhold w).segs (s.withhold w).fill := by
  simp only [State.withhold]
  (repeat' split) <;> simp -implicitDefEqProofs (maxDischargeDepth := 20) [ok]
@[simp] theorem places_decideRouted {s : State} (i : SlotId) (r : Bool) (x : Option (BitVec 2)) (ok : PlacesOk s.segs s.fill) :
    PlacesOk (s.decideRouted i r x).segs (s.decideRouted i r x).fill := by
  unfold State.decideRouted
  (repeat' split)
  · exact places_nackUp _ (places_raiseSlot _ _ ok)
  · exact places_nackUp _ ok
  · exact places_nackUp _ (places_raiseSlot _ _ ok)
  · rename_i f granted
    obtain ⟨empty, room, out⟩ := reservation_grants granted
    rw [empty] at ok
    exact ok.reserved _ out room
  · exact places_withhold _ ok
@[simp] theorem places_continueHeld {s : State} (i : SlotId) (r : Bool) (x : Option (BitVec 2)) (ok : PlacesOk s.segs s.fill) :
    PlacesOk (s.continueHeld i r x).segs (s.continueHeld i r x).fill := by
  simp only [State.continueHeld]
  (repeat' split) <;> simp -implicitDefEqProofs (maxDischargeDepth := 20) [State.seg, ok]
@[simp] theorem places_compoundRead {s : State} (i : SlotId) (ok : PlacesOk s.segs s.fill) :
    PlacesOk (s.compoundRead i).segs (s.compoundRead i).fill := by
  simp only [State.compoundRead]
  (repeat' split) <;> simp -implicitDefEqProofs (maxDischargeDepth := 20) [ok]
@[simp] theorem places_settleSame {s : State} (h : Held) (r : Bool) (x : Option (BitVec 2)) (ok : PlacesOk s.segs s.fill) :
    PlacesOk (s.settleSame h r x).segs (s.settleSame h r x).fill := by
  simp only [State.settleSame]
  (repeat' split) <;> simp -implicitDefEqProofs (maxDischargeDepth := 20) [ok]
@[simp] theorem places_decideSlot {s : State} (i : SlotId) (r : Bool) (x : Option (BitVec 2)) (ok : PlacesOk s.segs s.fill) :
    PlacesOk (s.decideSlot i r x).segs (s.decideSlot i r x).fill := by
  simp only [State.decideSlot]
  (repeat' split) <;> simp -implicitDefEqProofs (maxDischargeDepth := 20) [ok]
@[simp] theorem places_refuseAddress {s : State} (b : Bool) (ok : PlacesOk s.segs s.fill) :
    PlacesOk (s.refuseAddress b).segs (s.refuseAddress b).fill := by
  simp only [State.refuseAddress]
  simp -implicitDefEqProofs (maxDischargeDepth := 20) [ok]
@[simp] theorem places_acceptMgmt {s : State} (r : Bool) (ok : PlacesOk s.segs s.fill) :
    PlacesOk (s.acceptMgmt r).segs (s.acceptMgmt r).fill := by
  simp only [State.acceptMgmt]
  simp -implicitDefEqProofs (maxDischargeDepth := 20) [ok]
@[simp] theorem places_clearTen {s : State} (ok : PlacesOk s.segs s.fill) :
    PlacesOk (s.clearTen).segs (s.clearTen).fill := ok
@[simp] theorem places_clearTenUnless {s : State} (x : BitVec 2) (ok : PlacesOk s.segs s.fill) :
    PlacesOk (s.clearTenUnless x).segs (s.clearTenUnless x).fill := by
  unfold State.clearTenUnless
  split <;> exact ok
@[simp] theorem places_decideTenFirst {s : State} (x : BitVec 2) (ok : PlacesOk s.segs s.fill) :
    PlacesOk (s.decideTenFirst x).segs (s.decideTenFirst x).fill := by
  simp only [State.decideTenFirst]
  (repeat' split) <;> simp -implicitDefEqProofs (maxDischargeDepth := 20) [ok]
@[simp] theorem places_decideTenSecond {s : State} (b : Byte) (ok : PlacesOk s.segs s.fill) :
    PlacesOk (s.decideTenSecond b).segs (s.decideTenSecond b).fill := by
  simp only [State.decideTenSecond]
  (repeat' split) <;> simp -implicitDefEqProofs (maxDischargeDepth := 20) [ok]
@[simp] theorem places_decideTenRead {s : State} (x : BitVec 2) (ok : PlacesOk s.segs s.fill) :
    PlacesOk (s.decideTenRead x).segs (s.decideTenRead x).fill := by
  simp only [State.decideTenRead]
  (repeat' split) <;> simp -implicitDefEqProofs (maxDischargeDepth := 20) [ok]
@[simp] theorem places_decideAddress {s : State} (a : Addr7) (r : Bool) (ok : PlacesOk s.segs s.fill) :
    PlacesOk (s.decideAddress a r).segs (s.decideAddress a r).fill := by
  simp only [State.decideAddress]
  (repeat' split) <;> simp -implicitDefEqProofs (maxDischargeDepth := 20) [ok]
@[simp] theorem places_abandonPhase {s : State} (ok : PlacesOk s.segs s.fill) :
    PlacesOk (s.abandonPhase).segs (s.abandonPhase).fill := by
  simp only [State.abandonPhase]
  (repeat' split) <;> simp -implicitDefEqProofs (maxDischargeDepth := 20) [ok]
@[simp] theorem places_toAddress {s : State} (h : Option Held) (x : Option TenMemory) (r : Bool) (ok : PlacesOk s.segs s.fill) :
    PlacesOk (s.toAddress h x r).segs (s.toAddress h x r).fill := ok
@[simp] theorem places_pauseTxn {s : State} (ok : PlacesOk s.segs s.fill) :
    PlacesOk (s.pauseTxn).segs (s.pauseTxn).fill := by
  simp only [State.pauseTxn]
  (repeat' split) <;> simp -implicitDefEqProofs (maxDischargeDepth := 20) [State.seg, ok]
@[simp] theorem places_applyCreate {s : State} (i : SlotId) (r : RouteRecord) (h : Bool) (ok : PlacesOk s.segs s.fill) :
    PlacesOk (s.applyCreate i r h).segs (s.applyCreate i r h).fill := ok
@[simp] theorem places_placePending {s : State} (i : SlotId) (p : Pending) (ok : PlacesOk s.segs s.fill) :
    PlacesOk (s.placePending i p).segs (s.placePending i p).fill := ok
@[simp] theorem places_applyEntry {s : State} (e : Entry) (ok : PlacesOk s.segs s.fill) :
    PlacesOk (s.applyEntry e).segs (s.applyEntry e).fill := by
  simp only [State.applyEntry]
  (repeat' split) <;> simp -implicitDefEqProofs (maxDischargeDepth := 20) [ok]
@[simp] theorem places_clearTail {s : State} (g : Seg) (ok : PlacesOk s.segs s.fill) :
    PlacesOk (s.clearTail g).segs (s.clearTail g).fill := by
  simp only [State.clearTail]
  (repeat' split) <;> simp -implicitDefEqProofs (maxDischargeDepth := 20) [ok]
@[simp] theorem places_setOwner {s : State} (r : OwnerRef) (o : Owner) (ok : PlacesOk s.segs s.fill) :
    PlacesOk (s.setOwner r o).segs (s.setOwner r o).fill := by
  unfold State.setOwner
  split <;> exact ok
@[simp] theorem places_holdPhase {s : State} (k : HeldKind) (ok : PlacesOk s.segs s.fill) :
    PlacesOk (s.holdPhase k).segs (s.holdPhase k).fill := ok
@[simp] theorem places_takeMgmtByte {s : State} (b : Byte) (ok : PlacesOk s.segs s.fill) :
    PlacesOk (s.takeMgmtByte b).segs (s.takeMgmtByte b).fill := by
  unfold State.takeMgmtByte
  split <;> exact ok
@[simp] theorem places_sendMgmtByte {s : State} (b : Bool) (ok : PlacesOk s.segs s.fill) :
    PlacesOk (s.sendMgmtByte b).segs (s.sendMgmtByte b).fill := ok
@[simp] theorem places_answer {s : State} (a : UpOut) (ok : PlacesOk s.segs s.fill) :
    PlacesOk (s.answer a).segs (s.answer a).fill := ok
@[simp] theorem places_takeFillByte {s : State} (b : Byte) (ok : PlacesOk s.segs s.fill) :
    PlacesOk (s.takeFillByte b).segs (s.takeFillByte b).fill := by
  simp only [State.takeFillByte]
  (repeat' split) <;> simp -implicitDefEqProofs (maxDischargeDepth := 20) [ok]
@[simp] theorem places_takeCtByte {s : State} (b : Byte) (ok : PlacesOk s.segs s.fill) :
    PlacesOk (s.takeCtByte b).segs (s.takeCtByte b).fill := by
  simp only [State.takeCtByte]
  (repeat' split) <;> simp -implicitDefEqProofs (maxDischargeDepth := 20) [ok]
@[simp] theorem places_nextReadByte {s : State} (g : Seg) (ok : PlacesOk s.segs s.fill) :
    PlacesOk (s.nextReadByte g).segs (s.nextReadByte g).fill := by
  simp only [State.nextReadByte]
  simp -implicitDefEqProofs (maxDischargeDepth := 20) [ok]
@[simp] theorem places_byteClocked {s : State} (ok : PlacesOk s.segs s.fill) :
    PlacesOk (s.byteClocked).segs (s.byteClocked).fill := ok
@[simp] theorem places_takeReadAck {s : State} (b : Bool) (ok : PlacesOk s.segs s.fill) :
    PlacesOk (s.takeReadAck b).segs (s.takeReadAck b).fill := by
  simp only [State.takeReadAck]
  (repeat' split) <;> simp -implicitDefEqProofs (maxDischargeDepth := 20) [ok]
@[simp] theorem places_expireHold {s : State} (ok : PlacesOk s.segs s.fill) :
    PlacesOk (s.expireHold).segs (s.expireHold).fill := by
  simp only [State.expireHold]
  (repeat' split) <;> simp -implicitDefEqProofs (maxDischargeDepth := 20) [ok]
@[simp] theorem places_ackUp {s : State} (i : SlotId) (r : Bool) (ok : PlacesOk s.segs s.fill) :
    PlacesOk (s.ackUp i r).segs (s.ackUp i r).fill := by
  unfold State.ackUp
  split <;> exact ok
@[simp] theorem places_routedAddressAnswer {s : State} (g : Seg) (d : Down) (t : Txn) (a : Bool) (ok : PlacesOk s.segs s.fill) :
    PlacesOk (s.routedAddressAnswer g d t a).segs (s.routedAddressAnswer g d t a).fill := by
  simp only [State.routedAddressAnswer]
  (repeat' split) <;> simp -implicitDefEqProofs (maxDischargeDepth := 20) [ok]
@[simp] theorem places_takeAddressAnswer {s : State} (g : Seg) (a : Bool) (ok : PlacesOk s.segs s.fill) :
    PlacesOk (s.takeAddressAnswer g a).segs (s.takeAddressAnswer g a).fill := by
  simp only [State.takeAddressAnswer]
  (repeat' split) <;> simp -implicitDefEqProofs (maxDischargeDepth := 20) [ok]
@[simp] theorem places_takeCtAnswer {s : State} (g : Seg) (a : Bool) (ok : PlacesOk s.segs s.fill) :
    PlacesOk (s.takeCtAnswer g a).segs (s.takeCtAnswer g a).fill := by
  simp only [State.takeCtAnswer]
  (repeat' split) <;> simp -implicitDefEqProofs (maxDischargeDepth := 20) [ok]
@[simp] theorem places_takeReadByte {s : State} (g : Seg) (b : Byte) (ok : PlacesOk s.segs s.fill) :
    PlacesOk (s.takeReadByte g b).segs (s.takeReadByte g b).fill := by
  simp only [State.takeReadByte]
  (repeat' split) <;> simp -implicitDefEqProofs (maxDischargeDepth := 20) [ok]
@[simp] theorem places_loseCompound {s : State} (t : Txn) (ok : PlacesOk s.segs s.fill) :
    PlacesOk (s.loseCompound t).segs (s.loseCompound t).fill := by
  simp only [State.loseCompound]
  simp -implicitDefEqProofs (maxDischargeDepth := 20) [ok]
@[simp] theorem places_returnCompound {s : State} (t : Txn) (ok : PlacesOk s.segs s.fill) :
    PlacesOk (s.returnCompound t).segs (s.returnCompound t).fill := by
  simp only [State.returnCompound]
  (repeat' split) <;> simp -implicitDefEqProofs (maxDischargeDepth := 20) [ok]
@[simp] theorem places_frameOutAnswer {s : State} (g : Seg) (d : Down) (t : Txn) (a : Bool) (ok : PlacesOk s.segs s.fill) :
    PlacesOk (s.frameOutAnswer g d t a).segs (s.frameOutAnswer g d t a).fill := by
  simp only [State.frameOutAnswer]
  (repeat' split) <;> simp -implicitDefEqProofs (maxDischargeDepth := 20) [ok]
@[simp] theorem places_takeFrameOutAnswer {s : State} (g : Seg) (a : Bool) (ok : PlacesOk s.segs s.fill) :
    PlacesOk (s.takeFrameOutAnswer g a).segs (s.takeFrameOutAnswer g a).fill := by
  simp only [State.takeFrameOutAnswer]
  (repeat' split) <;> simp -implicitDefEqProofs (maxDischargeDepth := 20) [ok]
@[simp] theorem places_takeDeliveryAddress {s : State} (g : Seg) (a : Bool) (ok : PlacesOk s.segs s.fill) :
    PlacesOk (s.takeDeliveryAddress g a).segs (s.takeDeliveryAddress g a).fill := by
  simp only [State.takeDeliveryAddress]
  (repeat' split) <;> simp -implicitDefEqProofs (maxDischargeDepth := 20) [ok]
@[simp] theorem places_takeDeliveryByte {s : State} (g : Seg) (a : Bool) (ok : PlacesOk s.segs s.fill) :
    PlacesOk (s.takeDeliveryByte g a).segs (s.takeDeliveryByte g a).fill := by
  simp only [State.takeDeliveryByte]
  (repeat' split) <;> simp -implicitDefEqProofs (maxDischargeDepth := 20) [ok]
@[simp] theorem places_takeProbeAnswer {s : State} (g : Seg) (a : Bool) (ok : PlacesOk s.segs s.fill) :
    PlacesOk (s.takeProbeAnswer g a).segs (s.takeProbeAnswer g a).fill := by
  simp only [State.takeProbeAnswer]
  (repeat' split) <;> simp -implicitDefEqProofs (maxDischargeDepth := 20) [ok]
@[simp] theorem places_takeIdentifyAddress {s : State} (g : Seg) (a : Bool) (ok : PlacesOk s.segs s.fill) :
    PlacesOk (s.takeIdentifyAddress g a).segs (s.takeIdentifyAddress g a).fill := by
  simp only [State.takeIdentifyAddress]
  (repeat' split) <;> simp -implicitDefEqProofs (maxDischargeDepth := 20) [ok]
@[simp] theorem places_takeIdentifyByte {s : State} (g : Seg) (b : Byte) (ok : PlacesOk s.segs s.fill) :
    PlacesOk (s.takeIdentifyByte g b).segs (s.takeIdentifyByte g b).fill := by
  simp only [State.takeIdentifyByte]
  (repeat' split) <;> simp -implicitDefEqProofs (maxDischargeDepth := 20) [ok]
@[simp] theorem places_stopOwned {s : State} (g : Seg) (d : Down) (ok : PlacesOk s.segs s.fill) :
    PlacesOk (s.stopOwned g d).segs (s.stopOwned g d).fill := by
  simp only [State.stopOwned]
  (repeat' split) <;> simp -implicitDefEqProofs (maxDischargeDepth := 20) [ok]
@[simp] theorem places_takeStopComplete {s : State} (g : Seg) (ok : PlacesOk s.segs s.fill) :
    PlacesOk (s.takeStopComplete g).segs (s.takeStopComplete g).fill := by
  simp only [State.takeStopComplete]
  (repeat' split) <;> simp -implicitDefEqProofs (maxDischargeDepth := 20) [ok]
@[simp] theorem places_endUnder {s : State} (t : Txn) (ok : PlacesOk s.segs s.fill) :
    PlacesOk (s.endUnder t).segs (s.endUnder t).fill := by
  simp only [State.endUnder]
  (repeat' split) <;> simp -implicitDefEqProofs (maxDischargeDepth := 20) [ok]
@[simp] theorem places_failRouted {s : State} (k : OutcomeKind) (ok : PlacesOk s.segs s.fill) :
    PlacesOk (s.failRouted k).segs (s.failRouted k).fill := by
  simp only [State.failRouted]
  (repeat' split) <;> simp -implicitDefEqProofs (maxDischargeDepth := 20) [ok]
@[simp] theorem places_retryRouted {s : State} (g : Seg) (ok : PlacesOk s.segs s.fill) :
    PlacesOk (s.retryRouted g).segs (s.retryRouted g).fill := by
  simp only [State.retryRouted]
  simp -implicitDefEqProofs (maxDischargeDepth := 20) [State.seg, ok]
@[simp] theorem places_routedLoss {s : State} (g : Seg) (d : Down) (ok : PlacesOk s.segs s.fill) :
    PlacesOk (s.routedLoss g d).segs (s.routedLoss g d).fill := by
  simp only [State.routedLoss]
  (repeat' split) <;> simp -implicitDefEqProofs (maxDischargeDepth := 20) [ok]
@[simp] theorem places_deliveryLoss {s : State} (g : Seg) (d : Down) (f : FrameId) (k : Option OutcomeKind) (ok : PlacesOk s.segs s.fill) :
    PlacesOk (s.deliveryLoss g d f k).segs (s.deliveryLoss g d f k).fill := by
  simp only [State.deliveryLoss]
  (repeat' split) <;> simp -implicitDefEqProofs (maxDischargeDepth := 20) [State.seg, ok]
@[simp] theorem places_takeArbitrationLoss {s : State} (g : Seg) (ok : PlacesOk s.segs s.fill) :
    PlacesOk (s.takeArbitrationLoss g).segs (s.takeArbitrationLoss g).fill := by
  simp only [State.takeArbitrationLoss]
  (repeat' split) <;> simp -implicitDefEqProofs (maxDischargeDepth := 20) [State.seg, ok]
@[simp] theorem places_timeoutWork {s : State} (g : Seg) (d : Down) (ok : PlacesOk s.segs s.fill) :
    PlacesOk (s.timeoutWork g d).segs (s.timeoutWork g d).fill := by
  simp only [State.timeoutWork]
  (repeat' split) <;> simp -implicitDefEqProofs (maxDischargeDepth := 20) [ok]
@[simp] theorem places_takeLowTimeout {s : State} (g : Seg) (ok : PlacesOk s.segs s.fill) :
    PlacesOk (s.takeLowTimeout g).segs (s.takeLowTimeout g).fill := by
  simp only [State.takeLowTimeout]
  (repeat' split) <;> simp -implicitDefEqProofs (maxDischargeDepth := 20) [ok]
@[simp] theorem places_takePulse {s : State} (g : Seg) (a b : Bool) (ok : PlacesOk s.segs s.fill) :
    PlacesOk (s.takePulse g a b).segs (s.takePulse g a b).fill := by
  simp only [State.takePulse]
  (repeat' split) <;> simp -implicitDefEqProofs (maxDischargeDepth := 20) [State.seg, ok]
@[simp] theorem places_takeFree {s : State} (g : Seg) (ok : PlacesOk s.segs s.fill) :
    PlacesOk (s.takeFree g).segs (s.takeFree g).fill := by
  simp only [State.takeFree]
  (repeat' split) <;> simp -implicitDefEqProofs (maxDischargeDepth := 20) [ok]
@[simp] theorem places_takeExternalStart {s : State} (g : Seg) (ok : PlacesOk s.segs s.fill) :
    PlacesOk (s.takeExternalStart g).segs (s.takeExternalStart g).fill := by
  simp only [State.takeExternalStart]
  (repeat' split) <;> simp -implicitDefEqProofs (maxDischargeDepth := 20) [State.seg, ok]
@[simp] theorem places_takeAlertFall {s : State} (g : Seg) (ok : PlacesOk s.segs s.fill) :
    PlacesOk (s.takeAlertFall g).segs (s.takeAlertFall g).fill := by
  simp only [State.takeAlertFall]
  (repeat' split) <;> simp -implicitDefEqProofs (maxDischargeDepth := 20) [State.seg, ok]
@[simp] theorem places_takeAlertRise {s : State} (g : Seg) (ok : PlacesOk s.segs s.fill) :
    PlacesOk (s.takeAlertRise g).segs (s.takeAlertRise g).fill := by
  simp only [State.takeAlertRise]
  simp -implicitDefEqProofs (maxDischargeDepth := 20) [State.seg, ok]

end Sys2Proof.Machine
end

