-- ==== Sys2Proof/Laws/Protocol.lean ====
section
/-! SUPPORT. What a management write does when the part takes its frame, and what the frame checks answer. -/

namespace Sys2Proof.Machine

open Sys2Proof.Safety

/-! ### Frames -/

theorem frameBytes_head (code tag : Byte) (check : Option Byte) (args : List Byte) :
    (frameBytes code tag check args).head? = some (if check.isSome then code ||| 0x80 else code) := by
  cases check <;> rfl

theorem frameTag_frameBytes (code tag : Byte) (check : Option Byte) (args : List Byte) :
    frameTag (frameBytes code tag check args) = tag := by
  cases check <;> rfl

theorem length_frameBytes (code tag : Byte) (check : Option Byte) (args : List Byte) :
    (frameBytes code tag check args).length = args.length + (if check.isSome then 3 else 2) := by
  cases check <;> simp [frameBytes]

/-- The check flag of a frame is set exactly when it carries a check byte: the codes of the catalogue leave it clear. -/
theorem frameChecked_frameBytes (code tag : Byte) (check : Option Byte) (args : List Byte) (small : code < 0x80) :
    frameChecked (frameBytes code tag check args) = check.isSome := by
  have bit : code.getLsbD 7 = false := by
    rw [BitVec.getLsbD, Nat.testBit_eq_decide_div_mod_eq]
    have : code.toNat < 128 := small
    simp; omega
  cases check with
  | none => simpa [frameChecked, frameBytes] using bit
  | some c => simp [frameChecked, frameBytes]

theorem getLast?_frameBytes (code tag c : Byte) (args : List Byte) :
    (frameBytes code tag (some c) args).getLast? = some c := by
  change ((code ||| 0x80) :: tag :: (args ++ [c])).getLast? = some c
  rw [← List.cons_append, ← List.cons_append, List.getLast?_concat]

theorem dropLast_frameBytes (code tag c : Byte) (args : List Byte) :
    (frameBytes code tag (some c) args).dropLast = (code ||| 0x80) :: tag :: args := by
  change ((code ||| 0x80) :: tag :: (args ++ [c])).dropLast = _
  rw [← List.cons_append, ← List.cons_append, List.dropLast_concat]

/-- The frame checks pass on a frame whose check byte is right, or that needs none (R176). -/
theorem frameRefusal_frameBytes (s : State) (code tag : Byte) (check : Option Byte) (args : List Byte)
    (small : code < 0x80) (ok : CheckHolds s code tag check args) :
    s.frameRefusal (frameBytes code tag check args) false = none := by
  unfold State.frameRefusal
  rw [frameChecked_frameBytes _ _ _ _ small, length_frameBytes]
  cases check with
  | none => simp [CheckHolds] at ok; simp [ok]
  | some c =>
    simp only [CheckHolds] at ok
    rw [getLast?_frameBytes, dropLast_frameBytes, ok]
    have : ¬ args.length + 3 < 3 := by omega
    simp [this]

/-- A frame whose check byte is wrong, or is missing where one is required, is answered BAD_CHECK (R176). -/
theorem frameRefusal_badCheck (s : State) (code tag : Byte) (check : Option Byte) (args : List Byte)
    (small : code < 0x80) (bad : ¬ CheckHolds s code tag check args) :
    s.frameRefusal (frameBytes code tag check args) false = some .badCheck := by
  unfold State.frameRefusal
  rw [frameChecked_frameBytes _ _ _ _ small, length_frameBytes]
  cases check with
  | none => simp [CheckHolds] at bad; simp [bad]
  | some c =>
    simp only [CheckHolds] at bad
    rw [getLast?_frameBytes, dropLast_frameBytes]
    have : ¬ args.length + 3 < 3 := by omega
    simp only [this, if_false, Option.isSome_some, if_true, Option.some.injEq]
    rw [if_neg bad]
    rfl

/-- The port that has assembled a frame of the catalogue. -/
theorem writing_frameBytes (code tag : Byte) (check : Option Byte) (args : List Byte) (fits : args.length ≤ 21) :
    Port.writing (frameBytes code tag check args) =
      { Port.idle with state := .mgmtWrite, asm := frameBytes code tag check args, low := some 0, out := .ack } := by
  have short : (frameBytes code tag check args).length ≤ Config.assemblySize := by
    rw [length_frameBytes]; simp only [Config.assemblySize]; split <;> omega
  unfold Port.writing
  rw [List.take_of_length_le short]
  have : ¬ Config.assemblySize < (frameBytes code tag check args).length := by omega
  simp [this, Port.idle, Port.sclFalls, Port.lowTimerRuns]

/-- A management write that can be sent, with the frame checks told apart. -/
theorem managementWrite_idle (s : State) (frame : List Byte) (command : State → State) (running : s.inReset = false)
    (idle : s.port.state = .idle) :
    s.managementWrite frame command =
      (match s.frameRefusal (Port.writing frame).asm (Port.writing frame).overlong with
        | some st => State.respond { s with port := Port.writing frame } st (frameTag (Port.writing frame).asm) []
        | none => command { s with port := Port.writing frame }).toIdle := by
  unfold State.managementWrite
  exact if_neg (by simp [running, idle])

/-- The whole write of a frame that the part takes runs the command from a port that has assembled the frame, and leaves
the port IDLE. -/
theorem managementWrite_takes (s : State) (code tag : Byte) (check : Option Byte) (args : List Byte)
    (command : State → State) (small : code < 0x80) (fits : args.length ≤ 21) (ok : Takes s code tag check args) :
    s.managementWrite (frameBytes code tag check args) command =
      (command { s with port := Port.writing (frameBytes code tag check args) }).toIdle := by
  rw [managementWrite_idle s _ _ ok.1 ok.2.1]
  have passes : s.frameRefusal (Port.writing (frameBytes code tag check args)).asm
      (Port.writing (frameBytes code tag check args)).overlong = none := by
    rw [writing_frameBytes _ _ _ _ fits]
    exact frameRefusal_frameBytes s code tag check args small ok.2.2
  rw [passes]

/-- The same write of a frame with a wrong or missing check byte only answers BAD_CHECK (R176, R177). -/
theorem managementWrite_badCheck (s : State) (code tag : Byte) (check : Option Byte) (args : List Byte)
    (command : State → State) (small : code < 0x80) (fits : args.length ≤ 21) (running : s.inReset = false)
    (idle : s.port.state = .idle) (bad : ¬ CheckHolds s code tag check args) :
    s.managementWrite (frameBytes code tag check args) command = answered s .badCheck tag [] := by
  rw [managementWrite_idle s _ _ running idle]
  have fails : s.frameRefusal (Port.writing (frameBytes code tag check args)).asm
      (Port.writing (frameBytes code tag check args)).overlong = some .badCheck := by
    rw [writing_frameBytes _ _ _ _ fits]
    exact frameRefusal_badCheck s code tag check args small bad
  rw [fails, writing_frameBytes _ _ _ _ fits]
  change State.toIdle (State.respond _ _ (frameTag (frameBytes code tag check args)) []) = _
  rw [frameTag_frameBytes]
  rfl

/-! ### Answers -/

/-- An answer after a management write, whatever the port held, is `answered`. -/
theorem respond_toIdle (s : State) (p : Port) (st : Status) (tag : Byte) (data : List Byte) :
    (State.respond { s with port := p } st tag data).toIdle = answered s st tag data := rfl

theorem badArgument_toIdle (s : State) (p : Port) (tag : Byte) (f : Field) :
    (State.badArgument { s with port := p } tag f).toIdle = answered s .badArgument tag [f.code] := rfl

/-- A command that carries a token, with the session told apart (R33). -/
theorem withToken_none (s : State) (tag token : Byte) (command : State → State) (closed : s.session = none) :
    s.withToken tag token command = s.respond .noSession tag [] := by
  unfold State.withToken; rw [closed]

theorem withToken_other (s : State) (tag token : Byte) (command : State → State) (x : Session)
    (isOpen : s.session = some x) (other : x.token ≠ token) :
    s.withToken tag token command = s.respond .wrongToken tag [] := by
  unfold State.withToken; rw [isOpen]; exact if_neg other

theorem withToken_same (s : State) (tag token : Byte) (command : State → State) (x : Session)
    (isOpen : s.session = some x) (same : x.token = token) :
    s.withToken tag token command = command (restarted s x) := by
  unfold State.withToken; rw [isOpen]; exact if_pos same

/-- The argument checks that several commands share (R178, R199). -/
theorem slotOfByte_big (b : Byte) (big : 63 < b.toNat) : slotOfByte b = none := by
  unfold slotOfByte; exact dif_neg (by omega)

theorem slotOfByte_slot (i : SlotId) : slotOfByte (BitVec.ofNat 8 i.val) = some i := by
  have small : (BitVec.ofNat 8 i.val).toNat = i.val := by simp; omega
  unfold slotOfByte
  rw [dif_pos (by omega)]
  simp [small]

theorem segOfByte_seg (g : Seg) : segOfByte (segByte g) = some g := by cases g <;> rfl

theorem segOfByte_big (b : Byte) (big : 3 < b.toNat) : segOfByte b = none := by
  unfold segOfByte
  repeat' split
  all_goals first | rfl | (subst b; exact absurd big (by decide))

end Sys2Proof.Machine
end

