-- ==== Sys2Proof/Laws/Ranges.lean ====
section
/-! SUPPORT. The flag sets and the segment configurations stay within the values of R161 and R122 whatever operation
outside the commands runs. One lemma for each operation. -/

namespace Sys2Proof.Machine

open Sys2Proof.Safety

/-- A segment configuration and the one held after it, within R122. -/
def ConfigsOk (cfg : SegConfig) (next : Option SegConfig) : Prop :=
  SegConfigInRange cfg ∧ ∀ c, next = some c → SegConfigInRange c

/-- `FlagsInRange` and `SegConfigsInRange` over the parts of the state that they name. -/
def RangesOk (segs : PerSegment Segment) (att : Attention) : Prop :=
  (att.device.flags >>> deviceFlagCount = 0 ∧ (∀ i, (att.slots.get i).flags >>> slotFlagCount = 0)
    ∧ (∀ g, (att.segs.get g).flags >>> segFlagCount = 0))
  ∧ ∀ g, ConfigsOk (segs.get g).cfg (segs.get g).next

theorem ranges_iff (s : State) : (FlagsInRange s ∧ SegConfigsInRange s) ↔ RangesOk s.segs s.att := Iff.rfl

@[simp] theorem RangesOk.set {segs : PerSegment Segment} {att : Attention} {g : Seg} {x : Segment}
    (ok : RangesOk segs att) (cfg : x.cfg = (segs.get g).cfg) (next : x.next = (segs.get g).next) :
    RangesOk (segs.set g x) att := by
  refine ⟨ok.1, fun k => ?_⟩
  rw [PerSegment.get_set]
  split
  · rename_i e
    rw [cfg, next, ← e]
    exact ok.2 k
  · exact ok.2 k

/-- A configuration within R122 installed. -/
theorem RangesOk.installed {segs : PerSegment Segment} {att : Attention} {g : Seg} {x : Segment}
    (ok : RangesOk segs att) (fits : ConfigsOk x.cfg x.next) : RangesOk (segs.set g x) att := by
  refine ⟨ok.1, fun k => ?_⟩
  rw [PerSegment.get_set]
  split
  · exact fits
  · exact ok.2 k

theorem RangesOk.unrouted {segs : PerSegment Segment} {att : Attention} (ok : RangesOk segs att)
    (u : PerSegment (Option Addr7)) : RangesOk segs { att with unrouted := u } := ok

/-- A flag of a kind that the owner has leaves its flag set within R161. -/
theorem raise_inRange (o : Owner) (n bit : Nat) (small : bit < n) (wide : n ≤ 16) (h : o.flags >>> n = 0) :
    (o.raise bit).flags >>> n = 0 := by
  unfold Owner.raise
  split
  · exact h
  · have none := fun j => congrArg (fun v : BitVec 16 => v.getLsbD j) h
    simp only [BitVec.getLsbD_ushiftRight, BitVec.ofNat_eq_ofNat, BitVec.getLsbD_zero] at none
    apply BitVec.eq_of_getLsbD_eq
    intro j _
    simp [none j]
    omega

theorem ranges_foldl {α : Type} (f : State → α → State)
    (step : ∀ s x, RangesOk s.segs s.att → RangesOk (f s x).segs (f s x).att) (l : List α) (s : State)
    (ok : RangesOk s.segs s.att) : RangesOk (l.foldl f s).segs (l.foldl f s).att := by
  induction l generalizing s with
  | nil => exact ok
  | cons x l ih => exact ih _ (step s x ok)

/-- The presence map is no part of a configuration. -/
@[simp] theorem note_cfg (x : Segment) (a : Addr7) (ack : Bool) : (x.note a ack).cfg = x.cfg := by
  unfold Segment.note
  (repeat' split) <;> rfl

@[simp] theorem note_next (x : Segment) (a : Addr7) (ack : Bool) : (x.note a ack).next = x.next := by
  unfold Segment.note
  (repeat' split) <;> rfl

theorem slotFlag_bit_small (f : SlotFlag) : f.bit < slotFlagCount := by cases f <;> decide

theorem segFlag_bit_small (f : SegFlag) : f.bit < segFlagCount := by cases f <;> decide

theorem deviceFlag_bit_small (f : DeviceFlag) : f.bit < deviceFlagCount := by cases f <;> decide

/-! ### One lemma for each operation -/

@[simp] theorem ranges_raiseSlot {s : State} (i : SlotId) (f : SlotFlag) (ok : RangesOk s.segs s.att) :
    RangesOk (s.raiseSlot i f).segs (s.raiseSlot i f).att := by
  refine ⟨⟨ok.1.1, fun j => ?_, ok.1.2.2⟩, ok.2⟩
  change (((s.setSlotOwner i ((s.slotOwner i).raise f.bit)).slotOwner j).flags >>> slotFlagCount) = 0
  rw [slotOwner_setSlotOwner]
  split
  · exact raise_inRange _ _ _ (slotFlag_bit_small f) (by decide) (ok.1.2.1 i)
  · exact ok.1.2.1 j
@[simp] theorem ranges_raiseSlotIf {s : State} (c : Bool) (i : SlotId) (f : SlotFlag) (ok : RangesOk s.segs s.att) :
    RangesOk (s.raiseSlotIf c i f).segs (s.raiseSlotIf c i f).att := by
  simp only [State.raiseSlotIf]
  (repeat' split) <;> simp -implicitDefEqProofs (maxDischargeDepth := 20) [ok]
@[simp] theorem ranges_raiseSeg {s : State} (g : Seg) (f : SegFlag) (ok : RangesOk s.segs s.att) :
    RangesOk (s.raiseSeg g f).segs (s.raiseSeg g f).att := by
  refine ⟨⟨ok.1.1, ok.1.2.1, fun k => ?_⟩, ok.2⟩
  change (((s.setSegOwner g ((s.segOwner g).raise f.bit)).segOwner k).flags >>> segFlagCount) = 0
  rw [segOwner_setSegOwner]
  split
  · exact raise_inRange _ _ _ (segFlag_bit_small f) (by decide) (ok.1.2.2 g)
  · exact ok.1.2.2 k
@[simp] theorem ranges_clearSlotFlags {s : State} (i : SlotId) (ok : RangesOk s.segs s.att) :
    RangesOk (s.clearSlotFlags i).segs (s.clearSlotFlags i).att := by
  refine ⟨⟨ok.1.1, fun j => ?_, ok.1.2.2⟩, ok.2⟩
  change (((s.setSlotOwner i (s.slotOwner i).cleared).slotOwner j).flags >>> slotFlagCount) = 0
  rw [slotOwner_setSlotOwner]
  split
  · simp [Owner.cleared]
  · exact ok.1.2.1 j
@[simp] theorem ranges_clearFrame {s : State} (f : FrameId) (ok : RangesOk s.segs s.att) :
    RangesOk (s.clearFrame f).segs (s.clearFrame f).att := ok
@[simp] theorem ranges_setDown {s : State} (g : Seg) (d : Down) (ok : RangesOk s.segs s.att) :
    RangesOk (s.setDown g d).segs (s.setDown g d).att := by
  simp only [State.setDown]
  simp -implicitDefEqProofs (maxDischargeDepth := 20) [State.seg, ok]
@[simp] theorem ranges_notePresence {s : State} (g : Seg) (a : Addr7) (ack : Bool) (ok : RangesOk s.segs s.att) :
    RangesOk (s.notePresence g a ack).segs (s.notePresence g a ack).att := by
  simp only [State.notePresence]
  (repeat' split) <;> simp -implicitDefEqProofs (maxDischargeDepth := 20) [State.seg, ok]
@[simp] theorem ranges_mapDown {s : State} (g : Seg) (f : Down → Down) (ok : RangesOk s.segs s.att) :
    RangesOk (s.mapDown g f).segs (s.mapDown g f).att := by
  simp only [State.mapDown]
  simp -implicitDefEqProofs (maxDischargeDepth := 20) [State.seg, ok]
@[simp] theorem ranges_endDownAtBoundary {s : State} (g : Seg) (ok : RangesOk s.segs s.att) :
    RangesOk (s.endDownAtBoundary g).segs (s.endDownAtBoundary g).att := by
  simp only [State.endDownAtBoundary]
  simp -implicitDefEqProofs (maxDischargeDepth := 20) [ok]
@[simp] theorem ranges_own {s : State} (g : Seg) (d : Down) (n : Nat) (ok : RangesOk s.segs s.att) :
    RangesOk (s.own g d n).segs (s.own g d n).att := by
  simp only [State.own]
  simp -implicitDefEqProofs (maxDischargeDepth := 20) [State.seg, ok]
@[simp] theorem ranges_setStage {s : State} (st : Stage) (ok : RangesOk s.segs s.att) :
    RangesOk (s.setStage st).segs (s.setStage st).att := ok
@[simp] theorem ranges_grant {s : State} (g : Seg) (x : Grant) (ok : RangesOk s.segs s.att) :
    RangesOk (s.grant g x).segs (s.grant g x).att := by
  simp only [State.grant]
  (repeat' split) <;> simp -implicitDefEqProofs (maxDischargeDepth := 20) [ok]
@[simp] theorem ranges_arbitrate {s : State} (g : Seg) (ok : RangesOk s.segs s.att) :
    RangesOk (s.arbitrate g).segs (s.arbitrate g).att := by
  simp only [State.arbitrate]
  (repeat' split) <;> simp -implicitDefEqProofs (maxDischargeDepth := 20) [ok]
@[simp] theorem ranges_releaseFill {s : State} (ok : RangesOk s.segs s.att) :
    RangesOk (s.releaseFill).segs (s.releaseFill).att := by
  unfold State.releaseFill
  split <;> exact ok
@[simp] theorem ranges_clearFrames {s : State} (fs : List FrameId) (ok : RangesOk s.segs s.att) :
    RangesOk (s.clearFrames fs).segs (s.clearFrames fs).att := ranges_foldl _ (fun _ _ k => ranges_clearFrame _ k) _ _ ok
@[simp] theorem ranges_purgeSlot {s : State} (i : SlotId) (ok : RangesOk s.segs s.att) :
    RangesOk (s.purgeSlot i).segs (s.purgeSlot i).att := by
  simp only [State.purgeSlot]
  (repeat' split) <;> simp -implicitDefEqProofs (maxDischargeDepth := 20) [State.seg, ok]
@[simp] theorem ranges_freeSlot {s : State} (i : SlotId) (a b : Bool) (ok : RangesOk s.segs s.att) :
    RangesOk (s.freeSlot i a b).segs (s.freeSlot i a b).att := by
  simp only [State.freeSlot]
  simp -implicitDefEqProofs (maxDischargeDepth := 20) [ok]
@[simp] theorem ranges_applyRetire {s : State} (i : SlotId) (c : Drain) (b : Bool) (ok : RangesOk s.segs s.att) :
    RangesOk (s.applyRetire i c b).segs (s.applyRetire i c b).att := by
  simp only [State.applyRetire]
  (repeat' split) <;> simp -implicitDefEqProofs (maxDischargeDepth := 20) [ok]
@[simp] theorem ranges_applyModify {s : State} (i : SlotId) (r : RouteRecord) (ok : RangesOk s.segs s.att) :
    RangesOk (s.applyModify i r).segs (s.applyModify i r).att := ok
@[simp] theorem ranges_examinePending {s : State} (i : SlotId) (b : Bool) (ok : RangesOk s.segs s.att) :
    RangesOk (s.examinePending i b).segs (s.examinePending i b).att := by
  simp only [State.examinePending]
  (repeat' split) <;> simp -implicitDefEqProofs (maxDischargeDepth := 20) [ok]
@[simp] theorem ranges_drainingExit {s : State} (i : SlotId) (b : Bool) (ok : RangesOk s.segs s.att) :
    RangesOk (s.drainingExit i b).segs (s.drainingExit i b).att := by
  simp only [State.drainingExit]
  (repeat' split) <;> simp -implicitDefEqProofs (maxDischargeDepth := 20) [ok]
@[simp] theorem ranges_examine {s : State} (i : SlotId) (b : Bool) (ok : RangesOk s.segs s.att) :
    RangesOk (s.examine i b).segs (s.examine i b).att := by
  simp only [State.examine]
  simp -implicitDefEqProofs (maxDischargeDepth := 20) [ok]
@[simp] theorem ranges_nackUp {s : State} (b : Bool) (ok : RangesOk s.segs s.att) :
    RangesOk (s.nackUp b).segs (s.nackUp b).att := ok
@[simp] theorem ranges_breakUp {s : State} (ok : RangesOk s.segs s.att) :
    RangesOk (s.breakUp).segs (s.breakUp).att := by
  unfold State.breakUp
  split <;> exact ok
@[simp] theorem ranges_dropCompound {s : State} (t : Txn) (ok : RangesOk s.segs s.att) :
    RangesOk (s.dropCompound t).segs (s.dropCompound t).att := by
  simp only [State.dropCompound]
  (repeat' split) <;> simp -implicitDefEqProofs (maxDischargeDepth := 20) [ok]
@[simp] theorem ranges_dropTxn {s : State} (t : Txn) (ok : RangesOk s.segs s.att) :
    RangesOk (s.dropTxn t).segs (s.dropTxn t).att := by
  simp only [State.dropTxn]
  simp -implicitDefEqProofs (maxDischargeDepth := 20) [State.seg, ok]
@[simp] theorem ranges_withdraw {s : State} (t : Txn) (ok : RangesOk s.segs s.att) :
    RangesOk (s.withdraw t).segs (s.withdraw t).att := by
  simp only [State.withdraw]
  simp -implicitDefEqProofs (maxDischargeDepth := 20) [ok]
@[simp] theorem ranges_abortWaiting {s : State} (p : Txn → Bool) (ok : RangesOk s.segs s.att) :
    RangesOk (s.abortWaiting p).segs (s.abortWaiting p).att := by
  simp only [State.abortWaiting]
  (repeat' split) <;> simp -implicitDefEqProofs (maxDischargeDepth := 20) [ok]
@[simp] theorem ranges_placeClaim {s : State} (w : Wait) (ok : RangesOk s.segs s.att) :
    RangesOk (s.placeClaim w).segs (s.placeClaim w).att := by
  simp only [State.placeClaim]
  (repeat' split) <;> simp -implicitDefEqProofs (maxDischargeDepth := 20) [State.seg, ok]
@[simp] theorem ranges_dropDeferred {s : State} (w : Wait) (ok : RangesOk s.segs s.att) :
    RangesOk (s.dropDeferred w).segs (s.dropDeferred w).att := by
  simp only [State.dropDeferred]
  (repeat' split) <;> simp -implicitDefEqProofs (maxDischargeDepth := 20) [ok]
@[simp] theorem ranges_recheckDeferred {s : State} (ok : RangesOk s.segs s.att) :
    RangesOk (s.recheckDeferred).segs (s.recheckDeferred).att := by
  simp only [State.recheckDeferred]
  (repeat' split) <;> simp -implicitDefEqProofs (maxDischargeDepth := 20) [ok]
@[simp] theorem ranges_quarantine {s : State} (i : SlotId) (ok : RangesOk s.segs s.att) :
    RangesOk (s.quarantine i).segs (s.quarantine i).att := by
  simp only [State.quarantine]
  simp -implicitDefEqProofs (maxDischargeDepth := 20) [ok]
@[simp] theorem ranges_countFault {s : State} (i : SlotId) (ok : RangesOk s.segs s.att) :
    RangesOk (s.countFault i).segs (s.countFault i).att := by
  simp only [State.countFault]
  (repeat' split) <;> simp -implicitDefEqProofs (maxDischargeDepth := 20) [ok]
@[simp] theorem ranges_count {s : State} (i : SlotId) (g : Seg) (k : OutcomeKind) (ok : RangesOk s.segs s.att) :
    RangesOk (s.count i g k).segs (s.count i g k).att := by
  cases k with
  | holdExpired b => cases b <;> simp -implicitDefEqProofs (maxDischargeDepth := 20) [ok, State.count]
  | _ => simp -implicitDefEqProofs (maxDischargeDepth := 20) [ok, State.count]
@[simp] theorem ranges_report {s : State} (i : SlotId) (g : Seg) (k : OutcomeKind) (b : Bool) (ok : RangesOk s.segs s.att) :
    RangesOk (s.report i g k b).segs (s.report i g k b).att := by
  simp only [State.report]
  simp -implicitDefEqProofs (maxDischargeDepth := 20) [ok]
@[simp] theorem ranges_reportTxn {s : State} (k : OutcomeKind) (ok : RangesOk s.segs s.att) :
    RangesOk (s.reportTxn k).segs (s.reportTxn k).att := by
  simp only [State.reportTxn]
  (repeat' split) <;> simp -implicitDefEqProofs (maxDischargeDepth := 20) [ok]
@[simp] theorem ranges_endTxn {s : State} (k : OutcomeKind) (ok : RangesOk s.segs s.att) :
    RangesOk (s.endTxn k).segs (s.endTxn k).att := by
  simp only [State.endTxn]
  (repeat' split) <;> simp -implicitDefEqProofs (maxDischargeDepth := 20) [ok]
@[simp] theorem ranges_endDelivery {s : State} (g : Seg) (f : FrameId) (k : OutcomeKind) (b : Bool) (ok : RangesOk s.segs s.att) :
    RangesOk (s.endDelivery g f k b).segs (s.endDelivery g f k b).att := by
  simp only [State.endDelivery]
  (repeat' split) <;> simp -implicitDefEqProofs (maxDischargeDepth := 20) [State.seg, ok]
@[simp] theorem ranges_endUpstream {s : State} (f : Txn → Txn) (ok : RangesOk s.segs s.att) :
    RangesOk (s.endUpstream f).segs (s.endUpstream f).att := by
  simp only [State.endUpstream]
  (repeat' split) <;> simp -implicitDefEqProofs (maxDischargeDepth := 20) [ok]
@[simp] theorem ranges_lostFrames {s : State} (i : SlotId) (ok : RangesOk s.segs s.att) :
    RangesOk (s.lostFrames i).segs (s.lostFrames i).att := by
  simp only [State.lostFrames]
  (repeat' split) <;> simp -implicitDefEqProofs (maxDischargeDepth := 20) [ok]
@[simp] theorem ranges_purgeSegment {s : State} (g : Seg) (ok : RangesOk s.segs s.att) :
    RangesOk (s.purgeSegment g).segs (s.purgeSegment g).att := by
  unfold State.purgeSegment
  exact ranges_foldl _ (fun _ i k => ranges_lostFrames i k) _ _ (ranges_clearFrames _ (ok.set rfl rfl))
@[simp] theorem ranges_orphanFill {s : State} (g : Seg) (ok : RangesOk s.segs s.att) :
    RangesOk (s.orphanFill g).segs (s.orphanFill g).att := by
  simp only [State.orphanFill]
  (repeat' split) <;> simp -implicitDefEqProofs (maxDischargeDepth := 20) [ok]
@[simp] theorem ranges_abortDiscovery {s : State} (g : Seg) (ok : RangesOk s.segs s.att) :
    RangesOk (s.abortDiscovery g).segs (s.abortDiscovery g).att := by
  simp only [State.abortDiscovery]
  (repeat' split) <;> simp -implicitDefEqProofs (maxDischargeDepth := 20) [ok]
@[simp] theorem ranges_leaveService {s : State} (g : Seg) (x : SegState) (ok : RangesOk s.segs s.att) :
    RangesOk (s.leaveService g x).segs (s.leaveService g x).att := by
  simp only [State.leaveService]
  simp -implicitDefEqProofs (maxDischargeDepth := 20) [State.seg, ok]
theorem ranges_install {s : State} (g : Seg) (c : SegConfig) (fits : SegConfigInRange c) (ok : RangesOk s.segs s.att) :
    RangesOk (s.install g c).segs (s.install g c).att := by
  have first : RangesOk (s.segs.set g { s.seg g with cfg := c, next := none }) s.att :=
    ok.installed ⟨fits, fun _ e => by simp at e⟩
  unfold State.install
  dsimp only
  (repeat' split)
  · exact first.set rfl rfl
  · exact first
  · exact first
  · exact ranges_leaveService _ _ first
@[simp] theorem ranges_installNext {s : State} (g : Seg) (ok : RangesOk s.segs s.att) :
    RangesOk (s.installNext g).segs (s.installNext g).att := by
  unfold State.installNext
  split
  · rename_i held
    exact ranges_install _ _ ((ok.2 g).2 _ held) ok
  · exact ok
@[simp] theorem ranges_freeLines {s : State} (g : Seg) (ok : RangesOk s.segs s.att) :
    RangesOk (s.freeLines g).segs (s.freeLines g).att := by
  simp only [State.freeLines]
  simp -implicitDefEqProofs (maxDischargeDepth := 20) [State.seg, ok]
@[simp] theorem ranges_enterIdle {s : State} (g : Seg) (ok : RangesOk s.segs s.att) :
    RangesOk (s.enterIdle g).segs (s.enterIdle g).att := by
  simp only [State.enterIdle]
  simp -implicitDefEqProofs (maxDischargeDepth := 20) [State.seg, ok]
@[simp] theorem ranges_beginRecovery {s : State} (g : Seg) (ok : RangesOk s.segs s.att) :
    RangesOk (s.beginRecovery g).segs (s.beginRecovery g).att := by
  simp only [State.beginRecovery]
  simp -implicitDefEqProofs (maxDischargeDepth := 20) [State.seg, ok]
@[simp] theorem ranges_withdrawAt {s : State} (g : Seg) (ok : RangesOk s.segs s.att) :
    RangesOk (s.withdrawAt g).segs (s.withdrawAt g).att := by
  simp only [State.withdrawAt]
  simp -implicitDefEqProofs (maxDischargeDepth := 20) [ok]
@[simp] theorem ranges_failRecovery {s : State} (g : Seg) (ok : RangesOk s.segs s.att) :
    RangesOk (s.failRecovery g).segs (s.failRecovery g).att := by
  simp only [State.failRecovery]
  simp -implicitDefEqProofs (maxDischargeDepth := 20) [ok]
@[simp] theorem ranges_succeedRecovery {s : State} (g : Seg) (ok : RangesOk s.segs s.att) :
    RangesOk (s.succeedRecovery g).segs (s.succeedRecovery g).att := by
  simp only [State.succeedRecovery]
  simp -implicitDefEqProofs (maxDischargeDepth := 20) [State.seg, ok]
@[simp] theorem ranges_identifyResult {s : State} (g : Seg) (a : Option Bool) (b : Option Byte) (ok : RangesOk s.segs s.att) :
    RangesOk (s.identifyResult g a b).segs (s.identifyResult g a b).att := by
  unfold State.identifyResult
  split
  · dsimp only
    split
    · exact ranges_raiseSlot _ _ ok
    · exact ranges_raiseSeg (s := { s with att := { s.att with unrouted := _ } }) g _ (ok.unrouted _)
  · exact ranges_raiseSeg _ _ ok
  · exact ok
@[simp] theorem ranges_endIdentify {s : State} (g : Seg) (a : Option Bool) (b : Option Byte) (ok : RangesOk s.segs s.att) :
    RangesOk (s.endIdentify g a b).segs (s.endIdentify g a b).att := by
  simp only [State.endIdentify]
  (repeat' split) <;> simp -implicitDefEqProofs (maxDischargeDepth := 20) [State.seg, ok]
@[simp] theorem ranges_reviveSlot {s : State} (g : Seg) (i : SlotId) (ok : RangesOk s.segs s.att) :
    RangesOk (State.reviveSlot g s i).segs (State.reviveSlot g s i).att := by
  simp only [State.reviveSlot]
  (repeat' split) <;> simp -implicitDefEqProofs (maxDischargeDepth := 20) [ok]
@[simp] theorem ranges_completeDiscovery {s : State} (g : Seg) (ok : RangesOk s.segs s.att) :
    RangesOk (s.completeDiscovery g).segs (s.completeDiscovery g).att := by
  unfold State.completeDiscovery
  exact ranges_foldl _ (fun _ i k => ranges_reviveSlot g i k) _ _ (ranges_raiseSeg _ _ (ok.set rfl rfl))
@[simp] theorem ranges_advanceCursor {s : State} (g : Seg) (ok : RangesOk s.segs s.att) :
    RangesOk (s.advanceCursor g).segs (s.advanceCursor g).att := by
  simp only [State.advanceCursor]
  (repeat' split) <;> simp -implicitDefEqProofs (maxDischargeDepth := 20) [State.seg, ok]
@[simp] theorem ranges_dropDown {s : State} (g : Seg) (ok : RangesOk s.segs s.att) :
    RangesOk (s.dropDown g).segs (s.dropDown g).att := by
  simp only [State.dropDown]
  simp -implicitDefEqProofs (maxDischargeDepth := 20) [State.seg, ok]
@[simp] theorem ranges_finishWork {s : State} (g : Seg) (d : Down) (ok : RangesOk s.segs s.att) :
    RangesOk (s.finishWork g d).segs (s.finishWork g d).att := by
  simp only [State.finishWork]
  (repeat' split) <;> simp -implicitDefEqProofs (maxDischargeDepth := 20) [ok]
@[simp] theorem ranges_beginStretch {s : State} (ok : RangesOk s.segs s.att) :
    RangesOk (s.beginStretch).segs (s.beginStretch).att := ok
@[simp] theorem ranges_endStretch {s : State} (a : UpOut) (ok : RangesOk s.segs s.att) :
    RangesOk (s.endStretch a).segs (s.endStretch a).att := ok
@[simp] theorem ranges_rejectFill {s : State} (i : SlotId) (f : SlotFlag) (ok : RangesOk s.segs s.att) :
    RangesOk (s.rejectFill i f).segs (s.rejectFill i f).att := by
  simp only [State.rejectFill]
  simp -implicitDefEqProofs (maxDischargeDepth := 20) [ok]
@[simp] theorem ranges_queueFill {s : State} (p : Fill) (ok : RangesOk s.segs s.att) :
    RangesOk (s.queueFill p).segs (s.queueFill p).att := by
  simp only [State.queueFill]
  simp -implicitDefEqProofs (maxDischargeDepth := 20) [State.seg, ok]
@[simp] theorem ranges_closeFill {s : State} (ok : RangesOk s.segs s.att) :
    RangesOk (s.closeFill).segs (s.closeFill).att := by
  simp only [State.closeFill]
  (repeat' split) <;> simp -implicitDefEqProofs (maxDischargeDepth := 20) [ok]
@[simp] theorem ranges_endHeld {s : State} (ok : RangesOk s.segs s.att) :
    RangesOk (s.endHeld).segs (s.endHeld).att := by
  simp only [State.endHeld]
  (repeat' split) <;> simp -implicitDefEqProofs (maxDischargeDepth := 20) [ok]
@[simp] theorem ranges_withhold {s : State} (w : Wait) (ok : RangesOk s.segs s.att) :
    RangesOk (s.withhold w).segs (s.withhold w).att := by
  simp only [State.withhold]
  (repeat' split) <;> simp -implicitDefEqProofs (maxDischargeDepth := 20) [ok]
@[simp] theorem ranges_decideRouted {s : State} (i : SlotId) (r : Bool) (x : Option (BitVec 2)) (ok : RangesOk s.segs s.att) :
    RangesOk (s.decideRouted i r x).segs (s.decideRouted i r x).att := by
  simp only [State.decideRouted]
  (repeat' split) <;> simp -implicitDefEqProofs (maxDischargeDepth := 20) [ok]
@[simp] theorem ranges_continueHeld {s : State} (i : SlotId) (r : Bool) (x : Option (BitVec 2)) (ok : RangesOk s.segs s.att) :
    RangesOk (s.continueHeld i r x).segs (s.continueHeld i r x).att := by
  simp only [State.continueHeld]
  (repeat' split) <;> simp -implicitDefEqProofs (maxDischargeDepth := 20) [State.seg, ok]
@[simp] theorem ranges_compoundRead {s : State} (i : SlotId) (ok : RangesOk s.segs s.att) :
    RangesOk (s.compoundRead i).segs (s.compoundRead i).att := by
  simp only [State.compoundRead]
  (repeat' split) <;> simp -implicitDefEqProofs (maxDischargeDepth := 20) [ok]
@[simp] theorem ranges_settleSame {s : State} (h : Held) (r : Bool) (x : Option (BitVec 2)) (ok : RangesOk s.segs s.att) :
    RangesOk (s.settleSame h r x).segs (s.settleSame h r x).att := by
  simp only [State.settleSame]
  (repeat' split) <;> simp -implicitDefEqProofs (maxDischargeDepth := 20) [ok]
@[simp] theorem ranges_decideSlot {s : State} (i : SlotId) (r : Bool) (x : Option (BitVec 2)) (ok : RangesOk s.segs s.att) :
    RangesOk (s.decideSlot i r x).segs (s.decideSlot i r x).att := by
  simp only [State.decideSlot]
  (repeat' split) <;> simp -implicitDefEqProofs (maxDischargeDepth := 20) [ok]
@[simp] theorem ranges_refuseAddress {s : State} (b : Bool) (ok : RangesOk s.segs s.att) :
    RangesOk (s.refuseAddress b).segs (s.refuseAddress b).att := by
  simp only [State.refuseAddress]
  simp -implicitDefEqProofs (maxDischargeDepth := 20) [ok]
@[simp] theorem ranges_acceptMgmt {s : State} (r : Bool) (ok : RangesOk s.segs s.att) :
    RangesOk (s.acceptMgmt r).segs (s.acceptMgmt r).att := by
  simp only [State.acceptMgmt]
  simp -implicitDefEqProofs (maxDischargeDepth := 20) [ok]
@[simp] theorem ranges_clearTen {s : State} (ok : RangesOk s.segs s.att) :
    RangesOk (s.clearTen).segs (s.clearTen).att := ok
@[simp] theorem ranges_clearTenUnless {s : State} (x : BitVec 2) (ok : RangesOk s.segs s.att) :
    RangesOk (s.clearTenUnless x).segs (s.clearTenUnless x).att := by
  unfold State.clearTenUnless
  split <;> exact ok
@[simp] theorem ranges_decideTenFirst {s : State} (x : BitVec 2) (ok : RangesOk s.segs s.att) :
    RangesOk (s.decideTenFirst x).segs (s.decideTenFirst x).att := by
  simp only [State.decideTenFirst]
  (repeat' split) <;> simp -implicitDefEqProofs (maxDischargeDepth := 20) [ok]
@[simp] theorem ranges_decideTenSecond {s : State} (b : Byte) (ok : RangesOk s.segs s.att) :
    RangesOk (s.decideTenSecond b).segs (s.decideTenSecond b).att := by
  simp only [State.decideTenSecond]
  (repeat' split) <;> simp -implicitDefEqProofs (maxDischargeDepth := 20) [ok]
@[simp] theorem ranges_decideTenRead {s : State} (x : BitVec 2) (ok : RangesOk s.segs s.att) :
    RangesOk (s.decideTenRead x).segs (s.decideTenRead x).att := by
  simp only [State.decideTenRead]
  (repeat' split) <;> simp -implicitDefEqProofs (maxDischargeDepth := 20) [ok]
@[simp] theorem ranges_decideAddress {s : State} (a : Addr7) (r : Bool) (ok : RangesOk s.segs s.att) :
    RangesOk (s.decideAddress a r).segs (s.decideAddress a r).att := by
  simp only [State.decideAddress]
  (repeat' split) <;> simp -implicitDefEqProofs (maxDischargeDepth := 20) [ok]
@[simp] theorem ranges_abandonPhase {s : State} (ok : RangesOk s.segs s.att) :
    RangesOk (s.abandonPhase).segs (s.abandonPhase).att := by
  simp only [State.abandonPhase]
  (repeat' split) <;> simp -implicitDefEqProofs (maxDischargeDepth := 20) [ok]
@[simp] theorem ranges_toAddress {s : State} (h : Option Held) (x : Option TenMemory) (r : Bool) (ok : RangesOk s.segs s.att) :
    RangesOk (s.toAddress h x r).segs (s.toAddress h x r).att := ok
@[simp] theorem ranges_pauseTxn {s : State} (ok : RangesOk s.segs s.att) :
    RangesOk (s.pauseTxn).segs (s.pauseTxn).att := by
  simp only [State.pauseTxn]
  (repeat' split) <;> simp -implicitDefEqProofs (maxDischargeDepth := 20) [State.seg, ok]
@[simp] theorem ranges_applyCreate {s : State} (i : SlotId) (r : RouteRecord) (h : Bool) (ok : RangesOk s.segs s.att) :
    RangesOk (s.applyCreate i r h).segs (s.applyCreate i r h).att := by
  simp only [State.applyCreate]
  simp -implicitDefEqProofs (maxDischargeDepth := 20) [ok]
@[simp] theorem ranges_placePending {s : State} (i : SlotId) (p : Pending) (ok : RangesOk s.segs s.att) :
    RangesOk (s.placePending i p).segs (s.placePending i p).att := ok
@[simp] theorem ranges_applyEntry {s : State} (e : Entry) (ok : RangesOk s.segs s.att) :
    RangesOk (s.applyEntry e).segs (s.applyEntry e).att := by
  simp only [State.applyEntry]
  (repeat' split) <;> simp -implicitDefEqProofs (maxDischargeDepth := 20) [ok]
@[simp] theorem ranges_clearTail {s : State} (g : Seg) (ok : RangesOk s.segs s.att) :
    RangesOk (s.clearTail g).segs (s.clearTail g).att := by
  simp only [State.clearTail]
  (repeat' split) <;> simp -implicitDefEqProofs (maxDischargeDepth := 20) [ok]
@[simp] theorem ranges_holdPhase {s : State} (k : HeldKind) (ok : RangesOk s.segs s.att) :
    RangesOk (s.holdPhase k).segs (s.holdPhase k).att := ok
@[simp] theorem ranges_takeMgmtByte {s : State} (b : Byte) (ok : RangesOk s.segs s.att) :
    RangesOk (s.takeMgmtByte b).segs (s.takeMgmtByte b).att := by
  unfold State.takeMgmtByte
  split <;> exact ok
@[simp] theorem ranges_sendMgmtByte {s : State} (b : Bool) (ok : RangesOk s.segs s.att) :
    RangesOk (s.sendMgmtByte b).segs (s.sendMgmtByte b).att := ok
@[simp] theorem ranges_answer {s : State} (a : UpOut) (ok : RangesOk s.segs s.att) :
    RangesOk (s.answer a).segs (s.answer a).att := ok
@[simp] theorem ranges_takeFillByte {s : State} (b : Byte) (ok : RangesOk s.segs s.att) :
    RangesOk (s.takeFillByte b).segs (s.takeFillByte b).att := by
  simp only [State.takeFillByte]
  (repeat' split) <;> simp -implicitDefEqProofs (maxDischargeDepth := 20) [ok]
@[simp] theorem ranges_takeCtByte {s : State} (b : Byte) (ok : RangesOk s.segs s.att) :
    RangesOk (s.takeCtByte b).segs (s.takeCtByte b).att := by
  simp only [State.takeCtByte]
  (repeat' split) <;> simp -implicitDefEqProofs (maxDischargeDepth := 20) [ok]
@[simp] theorem ranges_nextReadByte {s : State} (g : Seg) (ok : RangesOk s.segs s.att) :
    RangesOk (s.nextReadByte g).segs (s.nextReadByte g).att := by
  simp only [State.nextReadByte]
  simp -implicitDefEqProofs (maxDischargeDepth := 20) [ok]
@[simp] theorem ranges_byteClocked {s : State} (ok : RangesOk s.segs s.att) :
    RangesOk (s.byteClocked).segs (s.byteClocked).att := ok
@[simp] theorem ranges_takeReadAck {s : State} (b : Bool) (ok : RangesOk s.segs s.att) :
    RangesOk (s.takeReadAck b).segs (s.takeReadAck b).att := by
  simp only [State.takeReadAck]
  (repeat' split) <;> simp -implicitDefEqProofs (maxDischargeDepth := 20) [ok]
@[simp] theorem ranges_expireHold {s : State} (ok : RangesOk s.segs s.att) :
    RangesOk (s.expireHold).segs (s.expireHold).att := by
  simp only [State.expireHold]
  (repeat' split) <;> simp -implicitDefEqProofs (maxDischargeDepth := 20) [ok]
@[simp] theorem ranges_ackUp {s : State} (i : SlotId) (r : Bool) (ok : RangesOk s.segs s.att) :
    RangesOk (s.ackUp i r).segs (s.ackUp i r).att := by
  unfold State.ackUp
  split <;> exact ok
@[simp] theorem ranges_routedAddressAnswer {s : State} (g : Seg) (d : Down) (t : Txn) (a : Bool) (ok : RangesOk s.segs s.att) :
    RangesOk (s.routedAddressAnswer g d t a).segs (s.routedAddressAnswer g d t a).att := by
  simp only [State.routedAddressAnswer]
  (repeat' split) <;> simp -implicitDefEqProofs (maxDischargeDepth := 20) [ok]
@[simp] theorem ranges_takeAddressAnswer {s : State} (g : Seg) (a : Bool) (ok : RangesOk s.segs s.att) :
    RangesOk (s.takeAddressAnswer g a).segs (s.takeAddressAnswer g a).att := by
  simp only [State.takeAddressAnswer]
  (repeat' split) <;> simp -implicitDefEqProofs (maxDischargeDepth := 20) [ok]
@[simp] theorem ranges_takeCtAnswer {s : State} (g : Seg) (a : Bool) (ok : RangesOk s.segs s.att) :
    RangesOk (s.takeCtAnswer g a).segs (s.takeCtAnswer g a).att := by
  simp only [State.takeCtAnswer]
  (repeat' split) <;> simp -implicitDefEqProofs (maxDischargeDepth := 20) [ok]
@[simp] theorem ranges_takeReadByte {s : State} (g : Seg) (b : Byte) (ok : RangesOk s.segs s.att) :
    RangesOk (s.takeReadByte g b).segs (s.takeReadByte g b).att := by
  simp only [State.takeReadByte]
  (repeat' split) <;> simp -implicitDefEqProofs (maxDischargeDepth := 20) [ok]
@[simp] theorem ranges_loseCompound {s : State} (t : Txn) (ok : RangesOk s.segs s.att) :
    RangesOk (s.loseCompound t).segs (s.loseCompound t).att := by
  simp only [State.loseCompound]
  simp -implicitDefEqProofs (maxDischargeDepth := 20) [ok]
@[simp] theorem ranges_returnCompound {s : State} (t : Txn) (ok : RangesOk s.segs s.att) :
    RangesOk (s.returnCompound t).segs (s.returnCompound t).att := by
  simp only [State.returnCompound]
  (repeat' split) <;> simp -implicitDefEqProofs (maxDischargeDepth := 20) [ok]
@[simp] theorem ranges_frameOutAnswer {s : State} (g : Seg) (d : Down) (t : Txn) (a : Bool) (ok : RangesOk s.segs s.att) :
    RangesOk (s.frameOutAnswer g d t a).segs (s.frameOutAnswer g d t a).att := by
  simp only [State.frameOutAnswer]
  (repeat' split) <;> simp -implicitDefEqProofs (maxDischargeDepth := 20) [ok]
@[simp] theorem ranges_takeFrameOutAnswer {s : State} (g : Seg) (a : Bool) (ok : RangesOk s.segs s.att) :
    RangesOk (s.takeFrameOutAnswer g a).segs (s.takeFrameOutAnswer g a).att := by
  simp only [State.takeFrameOutAnswer]
  (repeat' split) <;> simp -implicitDefEqProofs (maxDischargeDepth := 20) [ok]
@[simp] theorem ranges_takeDeliveryAddress {s : State} (g : Seg) (a : Bool) (ok : RangesOk s.segs s.att) :
    RangesOk (s.takeDeliveryAddress g a).segs (s.takeDeliveryAddress g a).att := by
  simp only [State.takeDeliveryAddress]
  (repeat' split) <;> simp -implicitDefEqProofs (maxDischargeDepth := 20) [ok]
@[simp] theorem ranges_takeDeliveryByte {s : State} (g : Seg) (a : Bool) (ok : RangesOk s.segs s.att) :
    RangesOk (s.takeDeliveryByte g a).segs (s.takeDeliveryByte g a).att := by
  simp only [State.takeDeliveryByte]
  (repeat' split) <;> simp -implicitDefEqProofs (maxDischargeDepth := 20) [ok]
@[simp] theorem ranges_takeProbeAnswer {s : State} (g : Seg) (a : Bool) (ok : RangesOk s.segs s.att) :
    RangesOk (s.takeProbeAnswer g a).segs (s.takeProbeAnswer g a).att := by
  simp only [State.takeProbeAnswer]
  (repeat' split) <;> simp -implicitDefEqProofs (maxDischargeDepth := 20) [ok]
@[simp] theorem ranges_takeIdentifyAddress {s : State} (g : Seg) (a : Bool) (ok : RangesOk s.segs s.att) :
    RangesOk (s.takeIdentifyAddress g a).segs (s.takeIdentifyAddress g a).att := by
  simp only [State.takeIdentifyAddress]
  (repeat' split) <;> simp -implicitDefEqProofs (maxDischargeDepth := 20) [ok]
@[simp] theorem ranges_takeIdentifyByte {s : State} (g : Seg) (b : Byte) (ok : RangesOk s.segs s.att) :
    RangesOk (s.takeIdentifyByte g b).segs (s.takeIdentifyByte g b).att := by
  simp only [State.takeIdentifyByte]
  (repeat' split) <;> simp -implicitDefEqProofs (maxDischargeDepth := 20) [ok]
@[simp] theorem ranges_stopOwned {s : State} (g : Seg) (d : Down) (ok : RangesOk s.segs s.att) :
    RangesOk (s.stopOwned g d).segs (s.stopOwned g d).att := by
  simp only [State.stopOwned]
  (repeat' split) <;> simp -implicitDefEqProofs (maxDischargeDepth := 20) [ok]
@[simp] theorem ranges_takeStopComplete {s : State} (g : Seg) (ok : RangesOk s.segs s.att) :
    RangesOk (s.takeStopComplete g).segs (s.takeStopComplete g).att := by
  simp only [State.takeStopComplete]
  (repeat' split) <;> simp -implicitDefEqProofs (maxDischargeDepth := 20) [ok]
@[simp] theorem ranges_endUnder {s : State} (t : Txn) (ok : RangesOk s.segs s.att) :
    RangesOk (s.endUnder t).segs (s.endUnder t).att := by
  simp only [State.endUnder]
  (repeat' split) <;> simp -implicitDefEqProofs (maxDischargeDepth := 20) [ok]
@[simp] theorem ranges_failRouted {s : State} (k : OutcomeKind) (ok : RangesOk s.segs s.att) :
    RangesOk (s.failRouted k).segs (s.failRouted k).att := by
  simp only [State.failRouted]
  (repeat' split) <;> simp -implicitDefEqProofs (maxDischargeDepth := 20) [ok]
@[simp] theorem ranges_retryRouted {s : State} (g : Seg) (ok : RangesOk s.segs s.att) :
    RangesOk (s.retryRouted g).segs (s.retryRouted g).att := by
  simp only [State.retryRouted]
  simp -implicitDefEqProofs (maxDischargeDepth := 20) [State.seg, ok]
@[simp] theorem ranges_routedLoss {s : State} (g : Seg) (d : Down) (ok : RangesOk s.segs s.att) :
    RangesOk (s.routedLoss g d).segs (s.routedLoss g d).att := by
  simp only [State.routedLoss]
  (repeat' split) <;> simp -implicitDefEqProofs (maxDischargeDepth := 20) [ok]
@[simp] theorem ranges_deliveryLoss {s : State} (g : Seg) (d : Down) (f : FrameId) (k : Option OutcomeKind) (ok : RangesOk s.segs s.att) :
    RangesOk (s.deliveryLoss g d f k).segs (s.deliveryLoss g d f k).att := by
  simp only [State.deliveryLoss]
  (repeat' split) <;> simp -implicitDefEqProofs (maxDischargeDepth := 20) [State.seg, ok]
@[simp] theorem ranges_takeArbitrationLoss {s : State} (g : Seg) (ok : RangesOk s.segs s.att) :
    RangesOk (s.takeArbitrationLoss g).segs (s.takeArbitrationLoss g).att := by
  simp only [State.takeArbitrationLoss]
  (repeat' split) <;> simp -implicitDefEqProofs (maxDischargeDepth := 20) [State.seg, ok]
@[simp] theorem ranges_timeoutWork {s : State} (g : Seg) (d : Down) (ok : RangesOk s.segs s.att) :
    RangesOk (s.timeoutWork g d).segs (s.timeoutWork g d).att := by
  simp only [State.timeoutWork]
  (repeat' split) <;> simp -implicitDefEqProofs (maxDischargeDepth := 20) [ok]
@[simp] theorem ranges_takeLowTimeout {s : State} (g : Seg) (ok : RangesOk s.segs s.att) :
    RangesOk (s.takeLowTimeout g).segs (s.takeLowTimeout g).att := by
  simp only [State.takeLowTimeout]
  (repeat' split) <;> simp -implicitDefEqProofs (maxDischargeDepth := 20) [ok]
@[simp] theorem ranges_takePulse {s : State} (g : Seg) (a b : Bool) (ok : RangesOk s.segs s.att) :
    RangesOk (s.takePulse g a b).segs (s.takePulse g a b).att := by
  simp only [State.takePulse]
  (repeat' split) <;> simp -implicitDefEqProofs (maxDischargeDepth := 20) [State.seg, ok]
@[simp] theorem ranges_takeFree {s : State} (g : Seg) (ok : RangesOk s.segs s.att) :
    RangesOk (s.takeFree g).segs (s.takeFree g).att := by
  simp only [State.takeFree]
  (repeat' split) <;> simp -implicitDefEqProofs (maxDischargeDepth := 20) [ok]
@[simp] theorem ranges_takeExternalStart {s : State} (g : Seg) (ok : RangesOk s.segs s.att) :
    RangesOk (s.takeExternalStart g).segs (s.takeExternalStart g).att := by
  simp only [State.takeExternalStart]
  (repeat' split) <;> simp -implicitDefEqProofs (maxDischargeDepth := 20) [State.seg, ok]
@[simp] theorem ranges_takeAlertFall {s : State} (g : Seg) (ok : RangesOk s.segs s.att) :
    RangesOk (s.takeAlertFall g).segs (s.takeAlertFall g).att := by
  simp only [State.takeAlertFall]
  (repeat' split) <;> simp -implicitDefEqProofs (maxDischargeDepth := 20) [State.seg, ok]
@[simp] theorem ranges_takeAlertRise {s : State} (g : Seg) (ok : RangesOk s.segs s.att) :
    RangesOk (s.takeAlertRise g).segs (s.takeAlertRise g).att := by
  simp only [State.takeAlertRise]
  simp -implicitDefEqProofs (maxDischargeDepth := 20) [State.seg, ok]

end Sys2Proof.Machine
end

