-- ==== Sys2Proof/Laws/Rest.lean ====
section
/-! SUPPORT. The parts of the state that routed traffic, deliveries, segments and alerts never touch: the reset line,
the strapped address, the device configuration, the response buffer, the edit session and the waiting commands. One
lemma for each operation. -/

namespace Sys2Proof.Machine

/-- The parts that only management commands, the idle timer and resets change. -/
def State.rest (s : State) :
    Bool × Addr7 × DeviceConfig × Response × Option Session × Byte × List Entry × List Instr :=
  (s.inReset, s.mgmtAddr, s.config, s.resp, s.session, s.tokenCounter, s.staging, s.pending)

@[simp] theorem rest_setSeg (s : State) (g : Seg) (x : Segment) : (s.setSeg g x).rest = s.rest := rfl
@[simp] theorem rest_setSlot (s : State) (i : SlotId) (x : Slot) : (s.setSlot i x).rest = s.rest := rfl
@[simp] theorem rest_setFrame (s : State) (f : FrameId) (x : Frame) : (s.setFrame f x).rest = s.rest := rfl
@[simp] theorem rest_setDeviceOwner (s : State) (o : Owner) : (s.setDeviceOwner o).rest = s.rest := rfl
@[simp] theorem rest_setSlotOwner (s : State) (i : SlotId) (o : Owner) : (s.setSlotOwner i o).rest = s.rest := rfl
@[simp] theorem rest_setSegOwner (s : State) (g : Seg) (o : Owner) : (s.setSegOwner g o).rest = s.rest := rfl
@[simp] theorem rest_port (s : State) (p : Port) : State.rest { s with port := p } = s.rest := rfl
@[simp] theorem rest_txn (s : State) (t : Option Txn) : State.rest { s with txn := t } = s.rest := rfl
@[simp] theorem rest_fill (s : State) (p : Option Fill) : State.rest { s with fill := p } = s.rest := rfl
@[simp] theorem rest_att (s : State) (a : Attention) : State.rest { s with att := a } = s.rest := rfl
@[simp] theorem rest_port_txn (s : State) (p : Port) (t : Option Txn) :
    State.rest { s with port := p, txn := t } = s.rest := rfl
@[simp] theorem rest_fill_port (s : State) (p : Port) (x : Option Fill) :
    State.rest { s with fill := x, port := p } = s.rest := rfl

/-- Whatever a fold applies keeps these parts if each application does. -/
theorem rest_foldl {α : Type} (f : State → α → State) (h : ∀ s a, (f s a).rest = s.rest) (l : List α) (s : State) :
    (l.foldl f s).rest = s.rest := by
  induction l generalizing s with
  | nil => rfl
  | cons a l ih => rw [List.foldl_cons, ih, h]

@[simp] theorem rest_raiseDevice (s : State) (f : DeviceFlag) : (s.raiseDevice f).rest = s.rest := by
  simp only [State.raiseDevice]; simp
@[simp] theorem rest_raiseSlot (s : State) (i : SlotId) (f : SlotFlag) : (s.raiseSlot i f).rest = s.rest := by
  simp only [State.raiseSlot]; simp
@[simp] theorem rest_raiseSlotIf (s : State) (c : Bool) (i : SlotId) (f : SlotFlag) : (s.raiseSlotIf c i f).rest = s.rest := by
  simp only [State.raiseSlotIf]; (repeat' split) <;> simp
@[simp] theorem rest_raiseSeg (s : State) (g : Seg) (f : SegFlag) : (s.raiseSeg g f).rest = s.rest := by
  simp only [State.raiseSeg]; simp
@[simp] theorem rest_clearSlotFlags (s : State) (i : SlotId) : (s.clearSlotFlags i).rest = s.rest := by
  simp only [State.clearSlotFlags]; simp
@[simp] theorem rest_clearFrame (s : State) (f : FrameId) : (s.clearFrame f).rest = s.rest := by
  simp only [State.clearFrame]; simp
@[simp] theorem rest_setDown (s : State) (g : Seg) (d : Down) : (s.setDown g d).rest = s.rest := by
  simp only [State.setDown]; simp
@[simp] theorem rest_notePresence (s : State) (g : Seg) (a : Addr7) (ack : Bool) : (s.notePresence g a ack).rest = s.rest := by
  simp only [State.notePresence]; (repeat' split) <;> simp
@[simp] theorem rest_mapDown (s : State) (g : Seg) (f : Down → Down) : (s.mapDown g f).rest = s.rest := by
  simp only [State.mapDown]; simp
@[simp] theorem rest_endDownAtBoundary (s : State) (g : Seg) : (s.endDownAtBoundary g).rest = s.rest := by
  simp only [State.endDownAtBoundary]; simp
@[simp] theorem rest_own (s : State) (g : Seg) (d : Down) (n : Nat) : (s.own g d n).rest = s.rest := by
  simp only [State.own]; simp
@[simp] theorem rest_setStage (s : State) (st : Stage) : (s.setStage st).rest = s.rest := by
  simp only [State.setStage]; simp
@[simp] theorem rest_grant (s : State) (g : Seg) (x : Grant) : (s.grant g x).rest = s.rest := by
  simp only [State.grant]; (repeat' split) <;> simp
@[simp] theorem rest_arbitrate (s : State) (g : Seg) : (s.arbitrate g).rest = s.rest := by
  simp only [State.arbitrate]; (repeat' split) <;> simp
@[simp] theorem rest_releaseFill (s : State) : (s.releaseFill).rest = s.rest := by
  simp only [State.releaseFill]; (repeat' split) <;> simp
@[simp] theorem rest_clearFrames (s : State) (fs : List FrameId) : (s.clearFrames fs).rest = s.rest := rest_foldl _ (fun s f => rest_clearFrame s f) _ _
@[simp] theorem rest_purgeSlot (s : State) (i : SlotId) : (s.purgeSlot i).rest = s.rest := by
  simp only [State.purgeSlot]; (repeat' split) <;> simp
@[simp] theorem rest_freeSlot (s : State) (i : SlotId) (a b : Bool) : (s.freeSlot i a b).rest = s.rest := by
  simp only [State.freeSlot]; simp
@[simp] theorem rest_applyRetire (s : State) (i : SlotId) (c : Drain) (b : Bool) : (s.applyRetire i c b).rest = s.rest := by
  simp only [State.applyRetire]; (repeat' split) <;> simp
@[simp] theorem rest_applyModify (s : State) (i : SlotId) (r : RouteRecord) : (s.applyModify i r).rest = s.rest := by
  simp only [State.applyModify]; simp
@[simp] theorem rest_examinePending (s : State) (i : SlotId) (b : Bool) : (s.examinePending i b).rest = s.rest := by
  simp only [State.examinePending]; (repeat' split) <;> simp
@[simp] theorem rest_drainingExit (s : State) (i : SlotId) (b : Bool) : (s.drainingExit i b).rest = s.rest := by
  simp only [State.drainingExit]; (repeat' split) <;> simp
@[simp] theorem rest_examine (s : State) (i : SlotId) (b : Bool) : (s.examine i b).rest = s.rest := by
  simp only [State.examine]; simp
@[simp] theorem rest_nackUp (s : State) (b : Bool) : (s.nackUp b).rest = s.rest := by
  simp only [State.nackUp]; (repeat' split) <;> simp
@[simp] theorem rest_breakUp (s : State) : (s.breakUp).rest = s.rest := by
  simp only [State.breakUp]; (repeat' split) <;> simp
@[simp] theorem rest_dropCompound (s : State) (t : Txn) : (s.dropCompound t).rest = s.rest := by
  simp only [State.dropCompound]; (repeat' split) <;> simp
@[simp] theorem rest_dropTxn (s : State) (t : Txn) : (s.dropTxn t).rest = s.rest := by
  simp only [State.dropTxn]; simp
@[simp] theorem rest_withdraw (s : State) (t : Txn) : (s.withdraw t).rest = s.rest := by
  simp only [State.withdraw]; simp
@[simp] theorem rest_abortWaiting (s : State) (p : Txn → Bool) : (s.abortWaiting p).rest = s.rest := by
  simp only [State.abortWaiting]; (repeat' split) <;> simp
@[simp] theorem rest_placeClaim (s : State) (w : Wait) : (s.placeClaim w).rest = s.rest := by
  simp only [State.placeClaim]; (repeat' split) <;> simp
@[simp] theorem rest_dropDeferred (s : State) (w : Wait) : (s.dropDeferred w).rest = s.rest := by
  simp only [State.dropDeferred]; (repeat' split) <;> simp
@[simp] theorem rest_recheckDeferred (s : State) : (s.recheckDeferred).rest = s.rest := by
  simp only [State.recheckDeferred]; (repeat' split) <;> simp
@[simp] theorem rest_quarantine (s : State) (i : SlotId) : (s.quarantine i).rest = s.rest := by
  simp only [State.quarantine]; simp
@[simp] theorem rest_countFault (s : State) (i : SlotId) : (s.countFault i).rest = s.rest := by
  simp only [State.countFault]; (repeat' split) <;> simp
@[simp] theorem rest_count (s : State) (i : SlotId) (g : Seg) (k : OutcomeKind) : (s.count i g k).rest = s.rest := by
  cases k with
  | holdExpired b => cases b <;> simp [State.count]
  | _ => simp [State.count]
@[simp] theorem rest_report (s : State) (i : SlotId) (g : Seg) (k : OutcomeKind) (b : Bool) : (s.report i g k b).rest = s.rest := by
  simp only [State.report]; simp
@[simp] theorem rest_reportTxn (s : State) (k : OutcomeKind) : (s.reportTxn k).rest = s.rest := by
  simp only [State.reportTxn]; (repeat' split) <;> simp
@[simp] theorem rest_endTxn (s : State) (k : OutcomeKind) : (s.endTxn k).rest = s.rest := by
  simp only [State.endTxn]; (repeat' split) <;> simp
@[simp] theorem rest_endDelivery (s : State) (g : Seg) (f : FrameId) (k : OutcomeKind) (b : Bool) : (s.endDelivery g f k b).rest = s.rest := by
  simp only [State.endDelivery]; (repeat' split) <;> simp
@[simp] theorem rest_endUpstream (s : State) (f : Txn → Txn) : (s.endUpstream f).rest = s.rest := by
  simp only [State.endUpstream]; (repeat' split) <;> simp
@[simp] theorem rest_lostFrames (s : State) (i : SlotId) : (s.lostFrames i).rest = s.rest := by
  simp only [State.lostFrames]; (repeat' split) <;> simp
@[simp] theorem rest_purgeSegment (s : State) (g : Seg) : (s.purgeSegment g).rest = s.rest := by
  simp [State.purgeSegment, rest_foldl _ rest_lostFrames]
@[simp] theorem rest_orphanFill (s : State) (g : Seg) : (s.orphanFill g).rest = s.rest := by
  simp only [State.orphanFill]; (repeat' split) <;> simp
@[simp] theorem rest_abortDiscovery (s : State) (g : Seg) : (s.abortDiscovery g).rest = s.rest := by
  simp only [State.abortDiscovery]; (repeat' split) <;> simp
@[simp] theorem rest_leaveService (s : State) (g : Seg) (x : SegState) : (s.leaveService g x).rest = s.rest := by
  simp only [State.leaveService]; simp
@[simp] theorem rest_install (s : State) (g : Seg) (c : SegConfig) : (s.install g c).rest = s.rest := by
  simp only [State.install]; (repeat' split) <;> simp
@[simp] theorem rest_installNext (s : State) (g : Seg) : (s.installNext g).rest = s.rest := by
  simp only [State.installNext]; (repeat' split) <;> simp
@[simp] theorem rest_freeLines (s : State) (g : Seg) : (s.freeLines g).rest = s.rest := by
  simp only [State.freeLines]; simp
@[simp] theorem rest_enterIdle (s : State) (g : Seg) : (s.enterIdle g).rest = s.rest := by
  simp only [State.enterIdle]; simp
@[simp] theorem rest_beginRecovery (s : State) (g : Seg) : (s.beginRecovery g).rest = s.rest := by
  simp only [State.beginRecovery]; simp
@[simp] theorem rest_withdrawAt (s : State) (g : Seg) : (s.withdrawAt g).rest = s.rest := by
  simp only [State.withdrawAt]; simp
@[simp] theorem rest_failRecovery (s : State) (g : Seg) : (s.failRecovery g).rest = s.rest := by
  simp only [State.failRecovery]; simp
@[simp] theorem rest_succeedRecovery (s : State) (g : Seg) : (s.succeedRecovery g).rest = s.rest := by
  simp only [State.succeedRecovery]; simp
@[simp] theorem rest_identifyResult (s : State) (g : Seg) (a : Option Bool) (b : Option Byte) : (s.identifyResult g a b).rest = s.rest := by
  simp only [State.identifyResult]; (repeat' split) <;> simp
@[simp] theorem rest_endIdentify (s : State) (g : Seg) (a : Option Bool) (b : Option Byte) : (s.endIdentify g a b).rest = s.rest := by
  simp only [State.endIdentify]; (repeat' split) <;> simp
@[simp] theorem rest_reviveSlot (g : Seg) (s : State) (i : SlotId) : (State.reviveSlot g s i).rest = s.rest := by
  simp only [State.reviveSlot]; (repeat' split) <;> simp
@[simp] theorem rest_completeDiscovery (s : State) (g : Seg) : (s.completeDiscovery g).rest = s.rest := by
  simp [State.completeDiscovery, rest_foldl _ (rest_reviveSlot g)]
@[simp] theorem rest_advanceCursor (s : State) (g : Seg) : (s.advanceCursor g).rest = s.rest := by
  simp only [State.advanceCursor]; (repeat' split) <;> simp
@[simp] theorem rest_dropDown (s : State) (g : Seg) : (s.dropDown g).rest = s.rest := by
  simp only [State.dropDown]; simp
@[simp] theorem rest_finishWork (s : State) (g : Seg) (d : Down) : (s.finishWork g d).rest = s.rest := by
  simp only [State.finishWork]; (repeat' split) <;> simp
@[simp] theorem rest_beginStretch (s : State) : (s.beginStretch).rest = s.rest := by
  simp only [State.beginStretch]; simp
@[simp] theorem rest_endStretch (s : State) (a : UpOut) : (s.endStretch a).rest = s.rest := by
  simp only [State.endStretch]; simp
@[simp] theorem rest_rejectFill (s : State) (i : SlotId) (f : SlotFlag) : (s.rejectFill i f).rest = s.rest := by
  simp only [State.rejectFill]; simp
@[simp] theorem rest_queueFill (s : State) (p : Fill) : (s.queueFill p).rest = s.rest := by
  simp only [State.queueFill]; simp
@[simp] theorem rest_closeFill (s : State) : (s.closeFill).rest = s.rest := by
  simp only [State.closeFill]; (repeat' split) <;> simp
@[simp] theorem rest_endHeld (s : State) : (s.endHeld).rest = s.rest := by
  simp only [State.endHeld]; (repeat' split) <;> simp
@[simp] theorem rest_withhold (s : State) (w : Wait) : (s.withhold w).rest = s.rest := by
  simp only [State.withhold]; (repeat' split) <;> simp
@[simp] theorem rest_decideRouted (s : State) (i : SlotId) (r : Bool) (x : Option (BitVec 2)) : (s.decideRouted i r x).rest = s.rest := by
  simp only [State.decideRouted]; (repeat' split) <;> first | rfl | simp
@[simp] theorem rest_continueHeld (s : State) (i : SlotId) (r : Bool) (x : Option (BitVec 2)) : (s.continueHeld i r x).rest = s.rest := by
  simp only [State.continueHeld]; (repeat' split) <;> simp
@[simp] theorem rest_compoundRead (s : State) (i : SlotId) : (s.compoundRead i).rest = s.rest := by
  simp only [State.compoundRead]; (repeat' split) <;> simp
@[simp] theorem rest_settleSame (s : State) (h : Held) (r : Bool) (x : Option (BitVec 2)) : (s.settleSame h r x).rest = s.rest := by
  simp only [State.settleSame]; (repeat' split) <;> simp
@[simp] theorem rest_decideSlot (s : State) (i : SlotId) (r : Bool) (x : Option (BitVec 2)) : (s.decideSlot i r x).rest = s.rest := by
  simp only [State.decideSlot]; (repeat' split) <;> simp
@[simp] theorem rest_refuseAddress (s : State) (b : Bool) : (s.refuseAddress b).rest = s.rest := by
  simp only [State.refuseAddress]; simp
@[simp] theorem rest_acceptMgmt (s : State) (r : Bool) : (s.acceptMgmt r).rest = s.rest := by
  simp only [State.acceptMgmt]; (repeat' split) <;> simp
@[simp] theorem rest_clearTen (s : State) : (s.clearTen).rest = s.rest := by
  simp only [State.clearTen]; simp
@[simp] theorem rest_clearTenUnless (s : State) (x : BitVec 2) : (s.clearTenUnless x).rest = s.rest := by
  simp only [State.clearTenUnless]; (repeat' split) <;> simp
@[simp] theorem rest_decideTenFirst (s : State) (x : BitVec 2) : (s.decideTenFirst x).rest = s.rest := by
  simp only [State.decideTenFirst]; (repeat' split) <;> simp
@[simp] theorem rest_decideTenSecond (s : State) (b : Byte) : (s.decideTenSecond b).rest = s.rest := by
  simp only [State.decideTenSecond]; (repeat' split) <;> simp
@[simp] theorem rest_decideTenRead (s : State) (x : BitVec 2) : (s.decideTenRead x).rest = s.rest := by
  simp only [State.decideTenRead]; (repeat' split) <;> simp
@[simp] theorem rest_decideAddress (s : State) (a : Addr7) (r : Bool) : (s.decideAddress a r).rest = s.rest := by
  simp only [State.decideAddress]; (repeat' split) <;> simp
@[simp] theorem rest_abandonPhase (s : State) : (s.abandonPhase).rest = s.rest := by
  simp only [State.abandonPhase]; (repeat' split) <;> simp
@[simp] theorem rest_toAddress (s : State) (h : Option Held) (x : Option TenMemory) (r : Bool) : (s.toAddress h x r).rest = s.rest := by
  simp only [State.toAddress]; simp
@[simp] theorem rest_toIdle (s : State) : (s.toIdle).rest = s.rest := by
  simp only [State.toIdle]; simp
@[simp] theorem rest_pauseTxn (s : State) : (s.pauseTxn).rest = s.rest := by
  simp only [State.pauseTxn]; (repeat' split) <;> simp
@[simp] theorem rest_applyCreate (s : State) (i : SlotId) (r : RouteRecord) (h : Bool) : (s.applyCreate i r h).rest = s.rest := by
  simp only [State.applyCreate]; (repeat' split) <;> simp
@[simp] theorem rest_placePending (s : State) (i : SlotId) (p : Pending) : (s.placePending i p).rest = s.rest := by
  simp only [State.placePending]; simp
@[simp] theorem rest_applyEntry (s : State) (e : Entry) : (s.applyEntry e).rest = s.rest := by
  simp only [State.applyEntry]; (repeat' split) <;> simp
@[simp] theorem rest_clearTail (s : State) (g : Seg) : (s.clearTail g).rest = s.rest := by
  simp only [State.clearTail]; (repeat' split) <;> simp
@[simp] theorem rest_setOwner (s : State) (r : OwnerRef) (o : Owner) : (s.setOwner r o).rest = s.rest := by
  simp only [State.setOwner]; (repeat' split) <;> simp
@[simp] theorem rest_holdPhase (s : State) (k : HeldKind) : (s.holdPhase k).rest = s.rest := by
  simp only [State.holdPhase]; simp
@[simp] theorem rest_takeMgmtByte (s : State) (b : Byte) : (s.takeMgmtByte b).rest = s.rest := by
  simp only [State.takeMgmtByte]; (repeat' split) <;> simp
@[simp] theorem rest_sendMgmtByte (s : State) (b : Bool) : (s.sendMgmtByte b).rest = s.rest := by
  simp only [State.sendMgmtByte]; (repeat' split) <;> simp
@[simp] theorem rest_answer (s : State) (a : UpOut) : (s.answer a).rest = s.rest := by
  simp only [State.answer]; simp
@[simp] theorem rest_takeFillByte (s : State) (b : Byte) : (s.takeFillByte b).rest = s.rest := by
  simp only [State.takeFillByte]; (repeat' split) <;> simp
@[simp] theorem rest_takeCtByte (s : State) (b : Byte) : (s.takeCtByte b).rest = s.rest := by
  simp only [State.takeCtByte]; (repeat' split) <;> simp
@[simp] theorem rest_nextReadByte (s : State) (g : Seg) : (s.nextReadByte g).rest = s.rest := by
  simp only [State.nextReadByte]; simp
@[simp] theorem rest_byteClocked (s : State) : (s.byteClocked).rest = s.rest := by
  simp only [State.byteClocked]; simp
@[simp] theorem rest_takeReadAck (s : State) (b : Bool) : (s.takeReadAck b).rest = s.rest := by
  simp only [State.takeReadAck]; (repeat' split) <;> simp
@[simp] theorem rest_expireHold (s : State) : (s.expireHold).rest = s.rest := by
  simp only [State.expireHold]; (repeat' split) <;> simp
@[simp] theorem rest_ackUp (s : State) (i : SlotId) (r : Bool) : (s.ackUp i r).rest = s.rest := by
  simp only [State.ackUp]; (repeat' split) <;> simp
@[simp] theorem rest_routedAddressAnswer (s : State) (g : Seg) (d : Down) (t : Txn) (a : Bool) : (s.routedAddressAnswer g d t a).rest = s.rest := by
  simp only [State.routedAddressAnswer]; (repeat' split) <;> simp
@[simp] theorem rest_takeAddressAnswer (s : State) (g : Seg) (a : Bool) : (s.takeAddressAnswer g a).rest = s.rest := by
  simp only [State.takeAddressAnswer]; (repeat' split) <;> simp
@[simp] theorem rest_takeCtAnswer (s : State) (g : Seg) (a : Bool) : (s.takeCtAnswer g a).rest = s.rest := by
  simp only [State.takeCtAnswer]; (repeat' split) <;> simp
@[simp] theorem rest_takeReadByte (s : State) (g : Seg) (b : Byte) : (s.takeReadByte g b).rest = s.rest := by
  simp only [State.takeReadByte]; (repeat' split) <;> simp
@[simp] theorem rest_loseCompound (s : State) (t : Txn) : (s.loseCompound t).rest = s.rest := rest_dropCompound s t
@[simp] theorem rest_returnCompound (s : State) (t : Txn) : (s.returnCompound t).rest = s.rest := by
  unfold State.returnCompound
  split
  · exact rest_releaseFill s
  · rfl
@[simp] theorem rest_frameOutAnswer (s : State) (g : Seg) (d : Down) (t : Txn) (a : Bool) : (s.frameOutAnswer g d t a).rest = s.rest := by
  simp only [State.frameOutAnswer]; (repeat' split) <;> simp
@[simp] theorem rest_takeFrameOutAnswer (s : State) (g : Seg) (a : Bool) : (s.takeFrameOutAnswer g a).rest = s.rest := by
  simp only [State.takeFrameOutAnswer]; (repeat' split) <;> simp
@[simp] theorem rest_takeDeliveryAddress (s : State) (g : Seg) (a : Bool) : (s.takeDeliveryAddress g a).rest = s.rest := by
  simp only [State.takeDeliveryAddress]; (repeat' split) <;> simp
@[simp] theorem rest_takeDeliveryByte (s : State) (g : Seg) (a : Bool) : (s.takeDeliveryByte g a).rest = s.rest := by
  simp only [State.takeDeliveryByte]; (repeat' split) <;> simp
@[simp] theorem rest_takeProbeAnswer (s : State) (g : Seg) (a : Bool) : (s.takeProbeAnswer g a).rest = s.rest := by
  simp only [State.takeProbeAnswer]; (repeat' split) <;> simp
@[simp] theorem rest_takeIdentifyAddress (s : State) (g : Seg) (a : Bool) : (s.takeIdentifyAddress g a).rest = s.rest := by
  simp only [State.takeIdentifyAddress]; (repeat' split) <;> simp
@[simp] theorem rest_takeIdentifyByte (s : State) (g : Seg) (b : Byte) : (s.takeIdentifyByte g b).rest = s.rest := by
  simp only [State.takeIdentifyByte]; (repeat' split) <;> simp
@[simp] theorem rest_stopOwned (s : State) (g : Seg) (d : Down) : (s.stopOwned g d).rest = s.rest := by
  simp only [State.stopOwned]; (repeat' split) <;> simp
@[simp] theorem rest_takeStopComplete (s : State) (g : Seg) : (s.takeStopComplete g).rest = s.rest := by
  simp only [State.takeStopComplete]; (repeat' split) <;> simp
@[simp] theorem rest_endUnder (s : State) (t : Txn) : (s.endUnder t).rest = s.rest := by
  simp only [State.endUnder]; (repeat' split) <;> simp
@[simp] theorem rest_failRouted (s : State) (k : OutcomeKind) : (s.failRouted k).rest = s.rest := by
  simp only [State.failRouted]; (repeat' split) <;> simp
@[simp] theorem rest_retryRouted (s : State) (g : Seg) : (s.retryRouted g).rest = s.rest := by
  simp only [State.retryRouted]; simp
@[simp] theorem rest_routedLoss (s : State) (g : Seg) (d : Down) : (s.routedLoss g d).rest = s.rest := by
  simp only [State.routedLoss]; (repeat' split) <;> simp
@[simp] theorem rest_deliveryLoss (s : State) (g : Seg) (d : Down) (f : FrameId) (k : Option OutcomeKind) : (s.deliveryLoss g d f k).rest = s.rest := by
  simp only [State.deliveryLoss]; (repeat' split) <;> simp
@[simp] theorem rest_takeArbitrationLoss (s : State) (g : Seg) : (s.takeArbitrationLoss g).rest = s.rest := by
  simp only [State.takeArbitrationLoss]; (repeat' split) <;> simp
@[simp] theorem rest_timeoutWork (s : State) (g : Seg) (d : Down) : (s.timeoutWork g d).rest = s.rest := by
  simp only [State.timeoutWork]; (repeat' split) <;> simp
@[simp] theorem rest_takeLowTimeout (s : State) (g : Seg) : (s.takeLowTimeout g).rest = s.rest := by
  simp only [State.takeLowTimeout]; (repeat' split) <;> simp
@[simp] theorem rest_takePulse (s : State) (g : Seg) (a b : Bool) : (s.takePulse g a b).rest = s.rest := by
  simp only [State.takePulse]; (repeat' split) <;> simp
@[simp] theorem rest_takeFree (s : State) (g : Seg) : (s.takeFree g).rest = s.rest := by
  simp only [State.takeFree]; (repeat' split) <;> simp
@[simp] theorem rest_takeExternalStart (s : State) (g : Seg) : (s.takeExternalStart g).rest = s.rest := by
  simp only [State.takeExternalStart]; (repeat' split) <;> simp
@[simp] theorem rest_takeAlertFall (s : State) (g : Seg) : (s.takeAlertFall g).rest = s.rest := by
  simp only [State.takeAlertFall]; (repeat' split) <;> simp
@[simp] theorem rest_takeAlertRise (s : State) (g : Seg) : (s.takeAlertRise g).rest = s.rest := by
  simp only [State.takeAlertRise]; simp

end Sys2Proof.Machine
end

