-- ==== Sys2Proof/Laws/Slots.lean ====
section
/-! SUPPORT. What every operation outside the commands makes of the slots: it claims no record that the slot did not
claim, keeps the shape of R1, and keeps the fault count within L7. One lemma for each operation: it leaves the slots as
they are, or the table it leaves is kept in this sense. -/

namespace Sys2Proof.Machine

open Sys2Proof.Safety

/-! ### One slot -/

/-- R1 for one slot: a record in every state except FREE, and no pending record in FREE. -/
def Slot.Shape (x : Slot) : Prop := (x.state = .free ↔ x.cur = none) ∧ (x.state = .free → x.pend = none)

/-- L7 for one slot. -/
def Slot.FaultOk (x : Slot) : Prop :=
  ∀ r, x.cur = some r → x.faults ≤ r.faultLimit
    ∧ (x.faults = r.faultLimit → x.state = .quarantined ∨ x.state = .draining ∨ x.pend.isSome)

/-- The fault limits of the claimed records are at least 1, as R3 has them. -/
def Slot.Limits (x : Slot) : Prop := ∀ r ∈ claimedRecords x, 1 ≤ r.faultLimit

/-- One slot kept: no new claim, the shape of R1 and the law L7 as before. -/
def Slot.Keeps (x y : Slot) : Prop :=
  (∀ r ∈ claimedRecords y, r ∈ claimedRecords x) ∧ (x.Shape → y.Shape)
    ∧ (x.Shape → x.Limits → x.FaultOk → y.FaultOk)

theorem Slot.Keeps.refl (x : Slot) : x.Keeps x := ⟨fun _ h => h, id, fun _ _ h => h⟩

theorem Slot.Keeps.trans {x y z : Slot} (h : x.Keeps y) (k : y.Keeps z) : x.Keeps z :=
  ⟨fun r m => h.1 r (k.1 r m), fun m => k.2.1 (h.2.1 m),
   fun m l f => k.2.2 (h.2.1 m) (fun r c => l r (h.1 r c)) (h.2.2 m l f)⟩

theorem Slot.limit_of_cur {x : Slot} (l : x.Limits) {r : RouteRecord} (e : x.cur = some r) : 1 ≤ r.faultLimit :=
  l r (by simp [claimedRecords, e])

/-- What a slot claims, from its two parts. -/
theorem mem_claimedRecords {x : Slot} {r : RouteRecord} :
    r ∈ claimedRecords x ↔ x.cur = some r ∨ x.pend = some (.modify r) := by
  unfold claimedRecords
  rcases x.pend with _ | (q | c) <;> simp [eq_comm]

theorem Slot.keeps_free (x : Slot) : x.Keeps Slot.free :=
  ⟨fun r m => by simp [mem_claimedRecords, Slot.free] at m, fun _ => by simp [Slot.Shape, Slot.free],
   fun _ _ _ r e => by simp [Slot.free] at e⟩

theorem Slot.keeps_draining (x : Slot) (has : x.cur.isSome) :
    x.Keeps { x with state := .draining, pend := none } := by
  refine ⟨fun r m => ?_, fun _ => ⟨⟨fun e => by simp at e, fun e => ?_⟩, fun e => by simp at e⟩, fun _ _ f r e => ?_⟩
  · simp only [mem_claimedRecords] at m ⊢
    exact m.imp id (fun e => by simp at e)
  · simp [show x.cur = none from e] at has
  · exact ⟨(f r e).1, fun _ => Or.inr (Or.inl rfl)⟩

theorem Slot.keeps_modify (x : Slot) (r : RouteRecord) (pending : x.pend = some (.modify r)) :
    x.Keeps { x with cur := some r, pend := none, faults := 0 } := by
  refine ⟨fun q m => ?_, fun sh => ⟨⟨fun e => ?_, fun e => by simp at e⟩, fun _ => rfl⟩, fun _ l _ q e => ?_⟩
  · simp only [mem_claimedRecords] at m ⊢
    rcases m with e | e
    · exact Or.inr (by simp at e; simp [pending, e])
    · simp at e
  · have := sh.2 e
    simp [pending] at this
  · have : 1 ≤ q.faultLimit := l q (by simp at e; simp [mem_claimedRecords, pending, e])
    exact ⟨Nat.zero_le _, fun z => by simp at z; omega⟩

theorem Slot.keeps_complete (x : Slot) : x.Keeps { x with completed := x.completed + 1, faults := 0 } := by
  refine ⟨fun r => by simp [mem_claimedRecords], fun sh => sh, fun _ l _ r e => ⟨Nat.zero_le _, fun z => ?_⟩⟩
  have := Slot.limit_of_cur l e
  simp at z; omega

theorem Slot.keeps_fault_quarantined (x : Slot) (n : Nat) (fit : x.state = .live ∨ x.state = .held) (below : n < (x.cur.map RouteRecord.faultLimit).getD 0) :
    x.Keeps { x with state := .quarantined, faults := n + 1 } := by
  refine ⟨fun r => by simp [mem_claimedRecords], fun sh => ⟨⟨fun e => by simp at e, fun e => ?_⟩, fun e => by simp at e⟩,
    fun _ _ _ r e => ⟨?_, fun _ => Or.inl rfl⟩⟩
  · have := sh.1.2 e
    rcases fit with f | f <;> simp [f] at this
  · have e' : x.cur = some r := e
    simp [e'] at below
    exact below

theorem Slot.keeps_fault (x : Slot) (below : x.faults < (x.cur.map RouteRecord.faultLimit).getD 0)
    (unfit : ¬ (x.faults + 1 = (x.cur.map RouteRecord.faultLimit).getD 0 ∧ (x.state = .live ∨ x.state = .held)
      ∧ x.pend = none)) : x.Keeps { x with faults := x.faults + 1 } := by
  refine ⟨fun r => by simp [mem_claimedRecords], fun sh => sh, fun sh _ _ r e => ?_⟩
  have e' : x.cur = some r := e
  simp only [e', Option.map_some, Option.getD_some] at below unfit
  refine ⟨below, fun z => ?_⟩
  have z' : x.faults + 1 = r.faultLimit := z
  have notFree : x.state ≠ .free := fun f => by simp [sh.1.1 f] at e'
  rcases hp : x.pend with _ | p
  · cases hs : x.state with
    | free => exact absurd hs notFree
    | live => exact absurd ⟨z', Or.inl hs, hp⟩ unfit
    | held => exact absurd ⟨z', Or.inr hs, hp⟩ unfit
    | quarantined => exact Or.inl rfl
    | draining => exact Or.inr (Or.inl rfl)
  · exact Or.inr (Or.inr (by simp))

theorem Slot.keeps_revived (x : Slot) (q : x.state = .quarantined) : x.Keeps { x with state := .live, faults := 0 } := by
  refine ⟨fun r => by simp [mem_claimedRecords], fun sh => ⟨⟨fun e => by simp at e, fun e => ?_⟩, fun e => by simp at e⟩,
    fun _ l _ r e => ⟨Nat.zero_le _, fun z => ?_⟩⟩
  · have := sh.1.2 e
    simp [q] at this
  · have := Slot.limit_of_cur l (show x.cur = some r from e)
    simp at z; omega

/-! ### The table -/

/-- Every slot kept. -/
def TableKeeps (a b : Vector Slot 64) : Prop := ∀ i : SlotId, (a.get i).Keeps (b.get i)

@[simp] theorem TableKeeps.refl (a : Vector Slot 64) : TableKeeps a a := fun _ => Slot.Keeps.refl _

theorem TableKeeps.trans {a b c : Vector Slot 64} (h : TableKeeps a b) (k : TableKeeps b c) : TableKeeps a c :=
  fun i => (h i).trans (k i)

/-- A kept table with one slot kept in its turn. -/
theorem TableKeeps.set {a b : Vector Slot 64} (h : TableKeeps a b) (i : SlotId) {x : Slot} (k : (b.get i).Keeps x) :
    TableKeeps a (b.set i x) := by
  intro j
  rw [vector_get_set]
  split
  · rename_i e
    subst e
    exact (h j).trans k
  · exact h j

/-- The same where the slot was written before, whatever was written. -/
theorem TableKeeps.set_set {a b : Vector Slot 64} (h : TableKeeps a b) (i : SlotId) (y : Slot) {x : Slot}
    (k : (b.get i).Keeps x) : TableKeeps a ((b.set i y).set i x) := by
  intro j
  rw [vector_get_set, vector_get_set]
  split
  · rename_i e
    subst e
    exact (h j).trans k
  · exact h j

theorem TableKeeps.foldl {α : Type} {a : Vector Slot 64} (f : State → α → State)
    (step : ∀ s x, TableKeeps a s.slots → TableKeeps a (f s x).slots) (l : List α) (s : State)
    (h : TableKeeps a s.slots) : TableKeeps a (l.foldl f s).slots := by
  induction l generalizing s with
  | nil => exact h
  | cons x l ih => exact ih _ (step s x h)

/-- A kept table keeps L1 and L2 with the shapes of R1. -/
theorem ClaimsDistinct.kept {s t : State} (k : TableKeeps s.slots t.slots) (h : ClaimsDistinct s) : ClaimsDistinct t :=
  fun i j ne r hr q hq => h i j ne r ((k i).1 r hr) q ((k j).1 q hq)

theorem SlotShapes.kept {s t : State} (k : TableKeeps s.slots t.slots) (h : SlotShapes s) : SlotShapes t :=
  fun i => (k i).2.1 (h i)

/-- A kept table keeps L7, from a state whose records have fault limits. -/
theorem FaultLaw.kept {s t : State} (k : TableKeeps s.slots t.slots) (shapes : SlotShapes s)
    (limits : ∀ i, (s.slot i).Limits) (h : FaultLaw s) : FaultLaw t :=
  fun i r => (k i).2.2 (shapes i) (limits i) (h i) r

theorem slots_foldl {α : Type} (f : State → α → State) (h : ∀ s a, (f s a).slots = s.slots) (l : List α) (s : State) :
    (l.foldl f s).slots = s.slots := by
  induction l generalizing s with
  | nil => rfl
  | cons a l ih => rw [List.foldl_cons, ih, h]

theorem cur_of_queued (s : State) (i : SlotId) (busy : s.queued i ≠ 0) : (s.slot i).cur.isSome := by
  unfold State.queued at busy
  split at busy
  · exact absurd rfl busy
  · rename_i e
    simp [e]

/-! ### One lemma for each operation -/

@[simp] theorem slots_raiseSlot (s : State) (i : SlotId) (f : SlotFlag) : (s.raiseSlot i f).slots = s.slots := rfl
@[simp] theorem slots_raiseSlotIf (s : State) (c : Bool) (i : SlotId) (f : SlotFlag) : (s.raiseSlotIf c i f).slots = s.slots := by
  simp only [State.raiseSlotIf]; split <;> rfl
@[simp] theorem slots_raiseSeg (s : State) (g : Seg) (f : SegFlag) : (s.raiseSeg g f).slots = s.slots := rfl
@[simp] theorem slots_clearSlotFlags (s : State) (i : SlotId) : (s.clearSlotFlags i).slots = s.slots := rfl
@[simp] theorem slots_clearFrame (s : State) (f : FrameId) : (s.clearFrame f).slots = s.slots := rfl
@[simp] theorem slots_setDown (s : State) (g : Seg) (d : Down) : (s.setDown g d).slots = s.slots := rfl
@[simp] theorem slots_notePresence (s : State) (g : Seg) (a : Addr7) (ack : Bool) : (s.notePresence g a ack).slots = s.slots := by
  simp only [State.notePresence]; split <;> rfl
@[simp] theorem slots_mapDown (s : State) (g : Seg) (f : Down → Down) : (s.mapDown g f).slots = s.slots := rfl
@[simp] theorem slots_endDownAtBoundary (s : State) (g : Seg) : (s.endDownAtBoundary g).slots = s.slots := rfl
@[simp] theorem slots_own (s : State) (g : Seg) (d : Down) (n : Nat) : (s.own g d n).slots = s.slots := rfl
@[simp] theorem slots_setStage (s : State) (st : Stage) : (s.setStage st).slots = s.slots := rfl
@[simp] theorem slots_grant (s : State) (g : Seg) (x : Grant) : (s.grant g x).slots = s.slots := by
  simp only [State.grant]; (repeat' split) <;> rfl
@[simp] theorem slots_arbitrate (s : State) (g : Seg) : (s.arbitrate g).slots = s.slots := by
  simp only [State.arbitrate]; (repeat' split) <;> simp
@[simp] theorem slots_releaseFill (s : State) : (s.releaseFill).slots = s.slots := by
  simp only [State.releaseFill]; split <;> rfl
@[simp] theorem slots_clearFrames (s : State) (fs : List FrameId) : (s.clearFrames fs).slots = s.slots := slots_foldl _ (fun s f => slots_clearFrame s f) _ _
@[simp] theorem slots_purgeSlot (s : State) (i : SlotId) : (s.purgeSlot i).slots = s.slots := by
  simp only [State.purgeSlot]; (repeat' split) <;> simp
@[simp] theorem slots_freeSlot {base : Vector Slot 64} {s : State} (i : SlotId) (a b : Bool) (h : TableKeeps base s.slots) :
    TableKeeps base (s.freeSlot i a b).slots := by
  simpa [State.freeSlot] using h.set i (Slot.keeps_free _)
@[simp] theorem slots_applyRetire {base : Vector Slot 64} {s : State} (i : SlotId) (c : Drain) (b : Bool) (h : TableKeeps base s.slots) :
    TableKeeps base (s.applyRetire i c b).slots := by
  unfold State.applyRetire
  split
  · exact slots_freeSlot i _ _ h
  · rename_i busy
    cases c with
    | drain => exact h.set i (Slot.keeps_draining _ (cur_of_queued s i busy))
    | discard => exact slots_freeSlot i _ _ (by rw [slots_purgeSlot]; exact h)
theorem slots_applyModify {base : Vector Slot 64} {s : State} (i : SlotId) (r : RouteRecord) (pending : (s.slot i).pend = some (.modify r)) (h : TableKeeps base s.slots) :
    TableKeeps base (s.applyModify i r).slots := by
  exact h.set i (Slot.keeps_modify _ r pending)
@[simp] theorem slots_examinePending {base : Vector Slot 64} {s : State} (i : SlotId) (b : Bool) (h : TableKeeps base s.slots) :
    TableKeeps base (s.examinePending i b).slots := by
  unfold State.examinePending
  (repeat' split)
  · exact h
  · exact slots_applyRetire i _ b h
  · exact h
  · rename_i pending _
    exact slots_applyModify i _ pending h
  · exact h
@[simp] theorem slots_drainingExit {base : Vector Slot 64} {s : State} (i : SlotId) (b : Bool) (h : TableKeeps base s.slots) :
    TableKeeps base (s.drainingExit i b).slots := by
  simp only [State.drainingExit]
  (repeat' split) <;> simp -implicitDefEqProofs (maxDischargeDepth := 20) [h]
@[simp] theorem slots_examine {base : Vector Slot 64} {s : State} (i : SlotId) (b : Bool) (h : TableKeeps base s.slots) :
    TableKeeps base (s.examine i b).slots := by
  simp only [State.examine]
  simp -implicitDefEqProofs (maxDischargeDepth := 20) [h]
@[simp] theorem slots_nackUp (s : State) (b : Bool) : (s.nackUp b).slots = s.slots := rfl
@[simp] theorem slots_breakUp (s : State) : (s.breakUp).slots = s.slots := by
  simp only [State.breakUp]; split <;> rfl
@[simp] theorem slots_dropCompound (s : State) (t : Txn) : (s.dropCompound t).slots = s.slots := by
  simp only [State.dropCompound]; (repeat' split) <;> simp
@[simp] theorem slots_dropTxn (s : State) (t : Txn) : (s.dropTxn t).slots = s.slots := rfl
@[simp] theorem slots_withdraw (s : State) (t : Txn) : (s.withdraw t).slots = s.slots := by
  simp only [State.withdraw]; simp
@[simp] theorem slots_abortWaiting {base : Vector Slot 64} {s : State} (p : Txn → Bool) (h : TableKeeps base s.slots) :
    TableKeeps base (s.abortWaiting p).slots := by
  simp only [State.abortWaiting]
  (repeat' split) <;> simp -implicitDefEqProofs (maxDischargeDepth := 20) [h]
@[simp] theorem slots_placeClaim (s : State) (w : Wait) : (s.placeClaim w).slots = s.slots := by
  simp only [State.placeClaim]; (repeat' split) <;> simp
@[simp] theorem slots_dropDeferred (s : State) (w : Wait) : (s.dropDeferred w).slots = s.slots := by
  simp only [State.dropDeferred]; (repeat' split) <;> simp
@[simp] theorem slots_recheckDeferred (s : State) : (s.recheckDeferred).slots = s.slots := by
  simp only [State.recheckDeferred]; (repeat' split) <;> simp
theorem slots_quarantine {base : Vector Slot 64} {s : State} (i : SlotId)
    (h : TableKeeps base (s.slots.set i { s.slot i with state := .quarantined })) :
    TableKeeps base (s.quarantine i).slots := by
  unfold State.quarantine
  exact slots_abortWaiting _ (by simpa using h)
@[simp] theorem slots_countFault {base : Vector Slot 64} {s : State} (i : SlotId) (h : TableKeeps base s.slots) :
    TableKeeps base (s.countFault i).slots := by
  unfold State.countFault
  dsimp only
  split
  · rename_i below
    split
    · rename_i fit
      have first := h.set_set i { s.slot i with faults := (s.slot i).faults + 1 }
        (Slot.keeps_fault_quarantined (s.slot i) _ fit.2.1 below)
      exact slots_quarantine i (by rw [slot_setSlot_same]; exact first)
    · rename_i fit
      exact h.set i (Slot.keeps_fault _ below fit)
  · exact h
@[simp] theorem slots_count {base : Vector Slot 64} {s : State} (i : SlotId) (g : Seg) (k : OutcomeKind) (h : TableKeeps base s.slots) :
    TableKeeps base (s.count i g k).slots := by
  cases k with
  | complete => exact h.set i (Slot.keeps_complete _)
  | holdExpired b => cases b <;> simp -implicitDefEqProofs [State.count, h]
  | _ => simp -implicitDefEqProofs [State.count, h]
@[simp] theorem slots_report {base : Vector Slot 64} {s : State} (i : SlotId) (g : Seg) (k : OutcomeKind) (b : Bool) (h : TableKeeps base s.slots) :
    TableKeeps base (s.report i g k b).slots := by
  simp only [State.report]
  simp -implicitDefEqProofs (maxDischargeDepth := 20) [h]
@[simp] theorem slots_reportTxn {base : Vector Slot 64} {s : State} (k : OutcomeKind) (h : TableKeeps base s.slots) :
    TableKeeps base (s.reportTxn k).slots := by
  simp only [State.reportTxn]
  (repeat' split) <;> simp -implicitDefEqProofs (maxDischargeDepth := 20) [h]
@[simp] theorem slots_endTxn {base : Vector Slot 64} {s : State} (k : OutcomeKind) (h : TableKeeps base s.slots) :
    TableKeeps base (s.endTxn k).slots := by
  simp only [State.endTxn]
  (repeat' split) <;> simp -implicitDefEqProofs (maxDischargeDepth := 20) [h]
@[simp] theorem slots_endDelivery {base : Vector Slot 64} {s : State} (g : Seg) (f : FrameId) (k : OutcomeKind) (b : Bool) (h : TableKeeps base s.slots) :
    TableKeeps base (s.endDelivery g f k b).slots := by
  simp only [State.endDelivery]
  (repeat' split) <;> simp -implicitDefEqProofs (maxDischargeDepth := 20) [h]
@[simp] theorem slots_endUpstream (s : State) (f : Txn → Txn) : (s.endUpstream f).slots = s.slots := by
  simp only [State.endUpstream]; split <;> rfl
@[simp] theorem slots_lostFrames {base : Vector Slot 64} {s : State} (i : SlotId) (h : TableKeeps base s.slots) :
    TableKeeps base (s.lostFrames i).slots := by
  simp only [State.lostFrames]
  (repeat' split) <;> simp -implicitDefEqProofs (maxDischargeDepth := 20) [h]
@[simp] theorem slots_purgeSegment {base : Vector Slot 64} {s : State} (g : Seg) (h : TableKeeps base s.slots) :
    TableKeeps base (s.purgeSegment g).slots := by
  unfold State.purgeSegment
  exact TableKeeps.foldl _ (fun t i k => slots_lostFrames i k) _ _ (by simpa using h)
@[simp] theorem slots_orphanFill (s : State) (g : Seg) : (s.orphanFill g).slots = s.slots := by
  simp only [State.orphanFill]; (repeat' split) <;> simp
@[simp] theorem slots_abortDiscovery (s : State) (g : Seg) : (s.abortDiscovery g).slots = s.slots := by
  simp only [State.abortDiscovery]; split <;> rfl
@[simp] theorem slots_leaveService {base : Vector Slot 64} {s : State} (g : Seg) (x : SegState) (h : TableKeeps base s.slots) :
    TableKeeps base (s.leaveService g x).slots := by
  simp only [State.leaveService]
  simp -implicitDefEqProofs (maxDischargeDepth := 20) [h]
@[simp] theorem slots_install {base : Vector Slot 64} {s : State} (g : Seg) (c : SegConfig) (h : TableKeeps base s.slots) :
    TableKeeps base (s.install g c).slots := by
  simp only [State.install]
  (repeat' split) <;> simp -implicitDefEqProofs (maxDischargeDepth := 20) [h]
@[simp] theorem slots_installNext {base : Vector Slot 64} {s : State} (g : Seg) (h : TableKeeps base s.slots) :
    TableKeeps base (s.installNext g).slots := by
  simp only [State.installNext]
  (repeat' split) <;> simp -implicitDefEqProofs (maxDischargeDepth := 20) [h]
@[simp] theorem slots_freeLines (s : State) (g : Seg) : (s.freeLines g).slots = s.slots := rfl
@[simp] theorem slots_enterIdle {base : Vector Slot 64} {s : State} (g : Seg) (h : TableKeeps base s.slots) :
    TableKeeps base (s.enterIdle g).slots := by
  simp only [State.enterIdle]
  simp -implicitDefEqProofs (maxDischargeDepth := 20) [h]
@[simp] theorem slots_beginRecovery (s : State) (g : Seg) : (s.beginRecovery g).slots = s.slots := rfl
@[simp] theorem slots_withdrawAt {base : Vector Slot 64} {s : State} (g : Seg) (h : TableKeeps base s.slots) :
    TableKeeps base (s.withdrawAt g).slots := by
  simp only [State.withdrawAt]
  simp -implicitDefEqProofs (maxDischargeDepth := 20) [h]
@[simp] theorem slots_failRecovery {base : Vector Slot 64} {s : State} (g : Seg) (h : TableKeeps base s.slots) :
    TableKeeps base (s.failRecovery g).slots := by
  simp only [State.failRecovery]
  simp -implicitDefEqProofs (maxDischargeDepth := 20) [h]
@[simp] theorem slots_succeedRecovery (s : State) (g : Seg) : (s.succeedRecovery g).slots = s.slots := rfl
@[simp] theorem slots_identifyResult (s : State) (g : Seg) (a : Option Bool) (b : Option Byte) : (s.identifyResult g a b).slots = s.slots := by
  simp only [State.identifyResult]; (repeat' split) <;> rfl
@[simp] theorem slots_endIdentify (s : State) (g : Seg) (a : Option Bool) (b : Option Byte) : (s.endIdentify g a b).slots = s.slots := by
  simp only [State.endIdentify]; (repeat' split) <;> simp
@[simp] theorem slots_reviveSlot {base : Vector Slot 64} {s : State} (g : Seg) (i : SlotId) (h : TableKeeps base s.slots) :
    TableKeeps base (State.reviveSlot g s i).slots := by
  unfold State.reviveSlot
  dsimp only
  split
  · rename_i fit
    have kept := h.set i (Slot.keeps_revived (s.slot i) fit.1)
    simpa using kept
  · exact h
@[simp] theorem slots_completeDiscovery {base : Vector Slot 64} {s : State} (g : Seg) (h : TableKeeps base s.slots) :
    TableKeeps base (s.completeDiscovery g).slots := by
  unfold State.completeDiscovery
  exact TableKeeps.foldl _ (fun t i k => slots_reviveSlot g i k) _ _ (by simpa using h)
@[simp] theorem slots_advanceCursor {base : Vector Slot 64} {s : State} (g : Seg) (h : TableKeeps base s.slots) :
    TableKeeps base (s.advanceCursor g).slots := by
  simp only [State.advanceCursor]
  (repeat' split) <;> simp -implicitDefEqProofs (maxDischargeDepth := 20) [h]
@[simp] theorem slots_dropDown (s : State) (g : Seg) : (s.dropDown g).slots = s.slots := rfl
@[simp] theorem slots_finishWork {base : Vector Slot 64} {s : State} (g : Seg) (d : Down) (h : TableKeeps base s.slots) :
    TableKeeps base (s.finishWork g d).slots := by
  simp only [State.finishWork]
  (repeat' split) <;> simp -implicitDefEqProofs (maxDischargeDepth := 20) [h]
@[simp] theorem slots_beginStretch (s : State) : (s.beginStretch).slots = s.slots := rfl
@[simp] theorem slots_endStretch (s : State) (a : UpOut) : (s.endStretch a).slots = s.slots := rfl
@[simp] theorem slots_rejectFill (s : State) (i : SlotId) (f : SlotFlag) : (s.rejectFill i f).slots = s.slots := by
  simp only [State.rejectFill]; simp
@[simp] theorem slots_queueFill (s : State) (p : Fill) : (s.queueFill p).slots = s.slots := by
  simp only [State.queueFill]; simp
@[simp] theorem slots_closeFill (s : State) : (s.closeFill).slots = s.slots := by
  simp only [State.closeFill]; (repeat' split) <;> simp
@[simp] theorem slots_endHeld (s : State) : (s.endHeld).slots = s.slots := by
  simp only [State.endHeld]; (repeat' split) <;> simp
@[simp] theorem slots_withhold (s : State) (w : Wait) : (s.withhold w).slots = s.slots := by
  simp only [State.withhold]; (repeat' split) <;> simp
@[simp] theorem slots_decideRouted (s : State) (i : SlotId) (r : Bool) (x : Option (BitVec 2)) : (s.decideRouted i r x).slots = s.slots := by
  simp only [State.decideRouted]; (repeat' split) <;> simp
@[simp] theorem slots_continueHeld (s : State) (i : SlotId) (r : Bool) (x : Option (BitVec 2)) : (s.continueHeld i r x).slots = s.slots := by
  simp only [State.continueHeld]; (repeat' split) <;> simp
@[simp] theorem slots_compoundRead (s : State) (i : SlotId) : (s.compoundRead i).slots = s.slots := by
  simp only [State.compoundRead]; (repeat' split) <;> simp
@[simp] theorem slots_settleSame (s : State) (h : Held) (r : Bool) (x : Option (BitVec 2)) : (s.settleSame h r x).slots = s.slots := by
  simp only [State.settleSame]; (repeat' split) <;> simp
@[simp] theorem slots_decideSlot (s : State) (i : SlotId) (r : Bool) (x : Option (BitVec 2)) : (s.decideSlot i r x).slots = s.slots := by
  simp only [State.decideSlot]; (repeat' split) <;> simp
@[simp] theorem slots_refuseAddress (s : State) (b : Bool) : (s.refuseAddress b).slots = s.slots := by
  simp only [State.refuseAddress]; simp
@[simp] theorem slots_acceptMgmt (s : State) (r : Bool) : (s.acceptMgmt r).slots = s.slots := by
  simp only [State.acceptMgmt]; simp
@[simp] theorem slots_clearTen (s : State) : (s.clearTen).slots = s.slots := rfl
@[simp] theorem slots_clearTenUnless (s : State) (x : BitVec 2) : (s.clearTenUnless x).slots = s.slots := by
  simp only [State.clearTenUnless]; split <;> rfl
@[simp] theorem slots_decideTenFirst (s : State) (x : BitVec 2) : (s.decideTenFirst x).slots = s.slots := by
  simp only [State.decideTenFirst]; (repeat' split) <;> simp
@[simp] theorem slots_decideTenSecond (s : State) (b : Byte) : (s.decideTenSecond b).slots = s.slots := by
  simp only [State.decideTenSecond]; (repeat' split) <;> simp
@[simp] theorem slots_decideTenRead (s : State) (x : BitVec 2) : (s.decideTenRead x).slots = s.slots := by
  simp only [State.decideTenRead]; (repeat' split) <;> simp
@[simp] theorem slots_decideAddress (s : State) (a : Addr7) (r : Bool) : (s.decideAddress a r).slots = s.slots := by
  simp only [State.decideAddress]; (repeat' split) <;> simp
@[simp] theorem slots_abandonPhase (s : State) : (s.abandonPhase).slots = s.slots := by
  simp only [State.abandonPhase]; (repeat' split) <;> simp
@[simp] theorem slots_toAddress (s : State) (h : Option Held) (x : Option TenMemory) (r : Bool) : (s.toAddress h x r).slots = s.slots := rfl
@[simp] theorem slots_pauseTxn (s : State) : (s.pauseTxn).slots = s.slots := by
  simp only [State.pauseTxn]; split <;> rfl
@[simp] theorem slots_clearTail (s : State) (g : Seg) : (s.clearTail g).slots = s.slots := by
  simp only [State.clearTail]; (repeat' split) <;> rfl
@[simp] theorem slots_setOwner (s : State) (r : OwnerRef) (o : Owner) : (s.setOwner r o).slots = s.slots := by
  simp only [State.setOwner]; split <;> rfl
@[simp] theorem slots_holdPhase (s : State) (k : HeldKind) : (s.holdPhase k).slots = s.slots := rfl
@[simp] theorem slots_takeMgmtByte (s : State) (b : Byte) : (s.takeMgmtByte b).slots = s.slots := by
  simp only [State.takeMgmtByte]; split <;> rfl
@[simp] theorem slots_sendMgmtByte (s : State) (b : Bool) : (s.sendMgmtByte b).slots = s.slots := rfl
@[simp] theorem slots_answer (s : State) (a : UpOut) : (s.answer a).slots = s.slots := rfl
@[simp] theorem slots_takeFillByte (s : State) (b : Byte) : (s.takeFillByte b).slots = s.slots := by
  simp only [State.takeFillByte]; (repeat' split) <;> rfl
@[simp] theorem slots_takeCtByte (s : State) (b : Byte) : (s.takeCtByte b).slots = s.slots := by
  simp only [State.takeCtByte]; (repeat' split) <;> simp
@[simp] theorem slots_nextReadByte (s : State) (g : Seg) : (s.nextReadByte g).slots = s.slots := rfl
@[simp] theorem slots_byteClocked (s : State) : (s.byteClocked).slots = s.slots := rfl
@[simp] theorem slots_takeReadAck (s : State) (b : Bool) : (s.takeReadAck b).slots = s.slots := by
  simp only [State.takeReadAck]; (repeat' split) <;> rfl
@[simp] theorem slots_expireHold {base : Vector Slot 64} {s : State} (h : TableKeeps base s.slots) :
    TableKeeps base (s.expireHold).slots := by
  simp only [State.expireHold]
  (repeat' split) <;> simp -implicitDefEqProofs (maxDischargeDepth := 20) [h]
@[simp] theorem slots_ackUp (s : State) (i : SlotId) (r : Bool) : (s.ackUp i r).slots = s.slots := by
  simp only [State.ackUp]; split <;> rfl
@[simp] theorem slots_routedAddressAnswer (s : State) (g : Seg) (d : Down) (t : Txn) (a : Bool) : (s.routedAddressAnswer g d t a).slots = s.slots := by
  simp only [State.routedAddressAnswer]; (repeat' split) <;> simp
@[simp] theorem slots_takeAddressAnswer (s : State) (g : Seg) (a : Bool) : (s.takeAddressAnswer g a).slots = s.slots := by
  simp only [State.takeAddressAnswer]; (repeat' split) <;> simp
@[simp] theorem slots_takeCtAnswer (s : State) (g : Seg) (a : Bool) : (s.takeCtAnswer g a).slots = s.slots := by
  simp only [State.takeCtAnswer]; (repeat' split) <;> rfl
@[simp] theorem slots_takeReadByte (s : State) (g : Seg) (b : Byte) : (s.takeReadByte g b).slots = s.slots := by
  simp only [State.takeReadByte]; (repeat' split) <;> rfl
@[simp] theorem slots_loseCompound (s : State) (t : Txn) : (s.loseCompound t).slots = s.slots := by
  simp only [State.loseCompound]; simp
@[simp] theorem slots_returnCompound (s : State) (t : Txn) : (s.returnCompound t).slots = s.slots := by
  simp only [State.returnCompound]; (repeat' split) <;> simp
@[simp] theorem slots_frameOutAnswer (s : State) (g : Seg) (d : Down) (t : Txn) (a : Bool) : (s.frameOutAnswer g d t a).slots = s.slots := by
  simp only [State.frameOutAnswer]; (repeat' split) <;> simp
@[simp] theorem slots_takeFrameOutAnswer (s : State) (g : Seg) (a : Bool) : (s.takeFrameOutAnswer g a).slots = s.slots := by
  simp only [State.takeFrameOutAnswer]; (repeat' split) <;> simp
@[simp] theorem slots_takeDeliveryAddress (s : State) (g : Seg) (a : Bool) : (s.takeDeliveryAddress g a).slots = s.slots := by
  simp only [State.takeDeliveryAddress]; (repeat' split) <;> simp
@[simp] theorem slots_takeDeliveryByte (s : State) (g : Seg) (a : Bool) : (s.takeDeliveryByte g a).slots = s.slots := by
  simp only [State.takeDeliveryByte]; (repeat' split) <;> rfl
@[simp] theorem slots_takeProbeAnswer {base : Vector Slot 64} {s : State} (g : Seg) (a : Bool) (h : TableKeeps base s.slots) :
    TableKeeps base (s.takeProbeAnswer g a).slots := by
  simp only [State.takeProbeAnswer]
  (repeat' split) <;> simp -implicitDefEqProofs (maxDischargeDepth := 20) [h]
@[simp] theorem slots_takeIdentifyAddress (s : State) (g : Seg) (a : Bool) : (s.takeIdentifyAddress g a).slots = s.slots := by
  simp only [State.takeIdentifyAddress]; (repeat' split) <;> simp
@[simp] theorem slots_takeIdentifyByte (s : State) (g : Seg) (b : Byte) : (s.takeIdentifyByte g b).slots = s.slots := by
  simp only [State.takeIdentifyByte]; (repeat' split) <;> rfl
@[simp] theorem slots_stopOwned {base : Vector Slot 64} {s : State} (g : Seg) (d : Down) (h : TableKeeps base s.slots) :
    TableKeeps base (s.stopOwned g d).slots := by
  simp only [State.stopOwned]
  (repeat' split) <;> simp -implicitDefEqProofs (maxDischargeDepth := 20) [h]
@[simp] theorem slots_takeStopComplete {base : Vector Slot 64} {s : State} (g : Seg) (h : TableKeeps base s.slots) :
    TableKeeps base (s.takeStopComplete g).slots := by
  simp only [State.takeStopComplete]
  (repeat' split) <;> simp -implicitDefEqProofs (maxDischargeDepth := 20) [h]
@[simp] theorem slots_endUnder (s : State) (t : Txn) : (s.endUnder t).slots = s.slots := by
  simp only [State.endUnder]; (repeat' split) <;> simp
@[simp] theorem slots_failRouted {base : Vector Slot 64} {s : State} (k : OutcomeKind) (h : TableKeeps base s.slots) :
    TableKeeps base (s.failRouted k).slots := by
  simp only [State.failRouted]
  (repeat' split) <;> simp -implicitDefEqProofs (maxDischargeDepth := 20) [h]
@[simp] theorem slots_retryRouted (s : State) (g : Seg) : (s.retryRouted g).slots = s.slots := rfl
@[simp] theorem slots_routedLoss {base : Vector Slot 64} {s : State} (g : Seg) (d : Down) (h : TableKeeps base s.slots) :
    TableKeeps base (s.routedLoss g d).slots := by
  simp only [State.routedLoss]
  (repeat' split) <;> simp -implicitDefEqProofs (maxDischargeDepth := 20) [h]
@[simp] theorem slots_deliveryLoss {base : Vector Slot 64} {s : State} (g : Seg) (d : Down) (f : FrameId) (k : Option OutcomeKind) (h : TableKeeps base s.slots) :
    TableKeeps base (s.deliveryLoss g d f k).slots := by
  simp only [State.deliveryLoss]
  (repeat' split) <;> simp -implicitDefEqProofs (maxDischargeDepth := 20) [h]
@[simp] theorem slots_takeArbitrationLoss {base : Vector Slot 64} {s : State} (g : Seg) (h : TableKeeps base s.slots) :
    TableKeeps base (s.takeArbitrationLoss g).slots := by
  simp only [State.takeArbitrationLoss]
  (repeat' split) <;> simp -implicitDefEqProofs (maxDischargeDepth := 20) [h]
@[simp] theorem slots_timeoutWork {base : Vector Slot 64} {s : State} (g : Seg) (d : Down) (h : TableKeeps base s.slots) :
    TableKeeps base (s.timeoutWork g d).slots := by
  simp only [State.timeoutWork]
  (repeat' split) <;> simp -implicitDefEqProofs (maxDischargeDepth := 20) [h]
@[simp] theorem slots_takeLowTimeout {base : Vector Slot 64} {s : State} (g : Seg) (h : TableKeeps base s.slots) :
    TableKeeps base (s.takeLowTimeout g).slots := by
  simp only [State.takeLowTimeout]
  (repeat' split) <;> simp -implicitDefEqProofs (maxDischargeDepth := 20) [h]
@[simp] theorem slots_takePulse {base : Vector Slot 64} {s : State} (g : Seg) (a b : Bool) (h : TableKeeps base s.slots) :
    TableKeeps base (s.takePulse g a b).slots := by
  simp only [State.takePulse]
  (repeat' split) <;> simp -implicitDefEqProofs (maxDischargeDepth := 20) [h]
@[simp] theorem slots_takeFree {base : Vector Slot 64} {s : State} (g : Seg) (h : TableKeeps base s.slots) :
    TableKeeps base (s.takeFree g).slots := by
  simp only [State.takeFree]
  (repeat' split) <;> simp -implicitDefEqProofs (maxDischargeDepth := 20) [h]
@[simp] theorem slots_takeExternalStart (s : State) (g : Seg) : (s.takeExternalStart g).slots = s.slots := by
  simp only [State.takeExternalStart]; split <;> rfl
@[simp] theorem slots_takeAlertFall (s : State) (g : Seg) : (s.takeAlertFall g).slots = s.slots := by
  simp only [State.takeAlertFall]; (repeat' split) <;> simp
@[simp] theorem slots_takeAlertRise (s : State) (g : Seg) : (s.takeAlertRise g).slots = s.slots := rfl

end Sys2Proof.Machine
end

