-- ==== Sys2Proof/Laws/Timers.lean ====
section
/-! SUPPORT. The timers run where their rules let them, below their limits, whatever operation outside the commands runs.
One lemma for each operation, for the timers of the segments and for those of the port. -/

namespace Sys2Proof.Machine

set_option linter.unusedVariables false
set_option linter.unusedSimpArgs false

open Sys2Proof.Safety

/-! ### The timers of one segment -/

/-- The active and the held configuration have a low limit of 1 ms at least. -/
def LimitsOk (cfg : SegConfig) (next : Option SegConfig) : Prop :=
  1 ≤ cfg.lowLimit ∧ ∀ c, next = some c → 1 ≤ c.lowLimit

/-- The bus-free timer runs in EXTERNAL, the low-limit timer in EXTERNAL, OWNED and RECOVERING (R128, R135). -/
def SegTimed (state : SegState) (cfg : SegConfig) (next : Option SegConfig) (busFree low : Option Nat) : Prop :=
  LimitsOk cfg next ∧ (∀ n, busFree = some n → n < 50 ∧ state = .external)
    ∧ ∀ n, low = some n → n < cfg.lowLimit ∧ (state = .external ∨ state = .owned ∨ state = .recovering)

/-- `SegTimed` on each segment. -/
def SegsTimed (segs : PerSegment Segment) : Prop :=
  ∀ g, SegTimed (segs.get g).state (segs.get g).cfg (segs.get g).next (segs.get g).busFree (segs.get g).low

@[simp] theorem SegsTimed.get {segs : PerSegment Segment} (g : Seg) (ok : SegsTimed segs) :
    SegTimed (segs.get g).state (segs.get g).cfg (segs.get g).next (segs.get g).busFree (segs.get g).low := ok g

@[simp] theorem SegsTimed.limits {segs : PerSegment Segment} (g : Seg) (ok : SegsTimed segs) :
    LimitsOk (segs.get g).cfg (segs.get g).next := (ok g).1

@[simp] theorem SegsTimed.set {segs : PerSegment Segment} {g : Seg} {x : Segment} (ok : SegsTimed segs)
    (fits : SegTimed x.state x.cfg x.next x.busFree x.low) : SegsTimed (segs.set g x) := by
  intro k
  rw [PerSegment.get_set]
  split
  · exact fits
  · exact ok k

/-- Both timers stopped, in any state. -/
@[simp] theorem segTimed_stopped (st : SegState) (cfg : SegConfig) (next : Option SegConfig) :
    SegTimed st cfg next none none ↔ LimitsOk cfg next := by
  simp [SegTimed]

/-- The low-limit timer started. -/
@[simp] theorem segTimed_low (st : SegState) (cfg : SegConfig) (next : Option SegConfig) :
    SegTimed st cfg next none (some 0)
      ↔ LimitsOk cfg next ∧ (st = .external ∨ st = .owned ∨ st = .recovering) := by
  simp only [SegTimed, LimitsOk, reduceCtorEq, false_implies, implies_true, Option.some.injEq, forall_eq', true_and]
  exact ⟨fun h => ⟨h.1, h.2.2⟩, fun h => ⟨h.1, h.1.1, h.2⟩⟩

/-- The bus-free timer started. -/
@[simp] theorem segTimed_busFree (cfg : SegConfig) (next : Option SegConfig) :
    SegTimed .external cfg next (some 0) none ↔ LimitsOk cfg next := by
  simp [SegTimed]

/-- A byte on the lines. -/
@[simp] theorem segTimed_withDown (x : Segment) (d : Down) (ok : SegTimed x.state x.cfg x.next x.busFree x.low) :
    SegTimed x.state x.cfg x.next x.busFree (x.withDown d).low := by
  refine ⟨ok.1, ok.2.1, fun n e => ?_⟩
  simp only [Segment.withDown] at e
  split at e
  · split at e
    · cases e
    · cases e
      exact ⟨ok.1.1, Or.inr (Or.inl (by assumption))⟩
  · exact ok.2.2 n e

/-- The transaction on the lines changed with no byte. -/
@[simp] theorem segTimed_mapDown (x : Segment) (f : Down → Down) (ok : SegTimed x.state x.cfg x.next x.busFree x.low) :
    SegTimed x.state x.cfg x.next x.busFree (x.mapDown f).low := by
  refine ⟨ok.1, ok.2.1, fun n e => ?_⟩
  simp only [Segment.mapDown] at e
  split at e
  · rename_i owned
    cases h : x.down.map f with
    | none => simp [h] at e
    | some d =>
      simp only [h, Option.bind_some] at e
      split at e
      · cases e
      · cases e
        refine ⟨?_, Or.inr (Or.inl owned)⟩
        cases l : x.low with
        | none => exact ok.1.1
        | some m => exact (ok.2.2 m l).1
  · exact ok.2.2 n e

/-- The presence map is no timer. -/
@[simp] theorem note_state (x : Segment) (a : Addr7) (ack : Bool) : (x.note a ack).state = x.state := by
  unfold Segment.note
  (repeat' split) <;> rfl

@[simp] theorem note_busFree (x : Segment) (a : Addr7) (ack : Bool) : (x.note a ack).busFree = x.busFree := by
  unfold Segment.note
  (repeat' split) <;> rfl

@[simp] theorem note_low (x : Segment) (a : Addr7) (ack : Bool) : (x.note a ack).low = x.low := by
  unfold Segment.note
  (repeat' split) <;> rfl

/-! ### The timers of the port -/

/-- The stretch timer stands below the hold limit it took (R70). -/
def StretchTimed (x : Option Timer) : Prop := ∀ t, x = some t → t.elapsed < t.limit

/-- The upstream-low timer runs where R73 lets it, below 45 ms, and the stretch timer below its limit. -/
def PortTimed (state : PortState) (stretch : Option Timer) (low : Option Nat) : Prop :=
  low.isSome = (state != .idle && state != .notAddressed && stretch.isNone) ∧ (∀ n, low = some n → n < 45)
    ∧ StretchTimed stretch

/-- A timer in IDLE or NOT_ADDRESSED: there is none. -/
@[simp] theorem portTimed_idle : PortTimed .idle none none := ⟨rfl, nofun, nofun⟩

@[simp] theorem portTimed_notAddressed : PortTimed .notAddressed none none := ⟨rfl, nofun, nofun⟩

/-- A stretch begins. -/
@[simp] theorem portTimed_stretch (st : PortState) (limit : Nat) :
    PortTimed st (some { elapsed := 0, limit := limit }) none ↔ 0 < limit := by
  simp [PortTimed, StretchTimed]

/-- SCL falls. -/
@[simp] theorem portTimed_falls (st : PortState) (x : Option Timer) :
    PortTimed st x (if (st != .idle && st != .notAddressed && x.isNone) = true then some 0 else none) ↔ StretchTimed x := by
  cases st <;> cases x <;> simp [PortTimed, StretchTimed]

@[simp] theorem portTimed_falls_free (st : PortState) :
    PortTimed st none (if ¬st = .idle ∧ ¬st = .notAddressed then some 0 else none) := by
  cases st <;> simp [PortTimed, StretchTimed]

@[simp] theorem portTimed_low (st : PortState) : PortTimed st none (some 0) ↔ st ≠ .idle ∧ st ≠ .notAddressed := by
  simp [PortTimed, StretchTimed]

@[simp] theorem portTimed_sclFalls (p : Port) (ok : StretchTimed p.stretch) :
    PortTimed p.state p.stretch p.sclFalls.low := (portTimed_falls p.state p.stretch).mpr ok

@[simp] theorem stretchTimed_none : StretchTimed none := nofun

@[simp] theorem PortTimed.stretchTimed {st : PortState} {x : Option Timer} {low : Option Nat} (ok : PortTimed st x low) :
    StretchTimed x := ok.2.2

/-- The whole port, timed. -/
abbrev Port.timed (p : Port) : Prop := PortTimed p.state p.stretch p.low

theorem timersRun_iff (s : State) (ok : SegConfigsInRange s) : TimersRun s ↔
    SegsTimed s.segs ∧ PortTimed s.port.state s.port.stretch s.port.low
      ∧ ∀ x, s.session = some x → x.elapsed < x.limit * 100 := by
  have limits : ∀ g, LimitsOk (s.segs.get g).cfg (s.segs.get g).next := fun g =>
    ⟨by have := (ok g).1.1; simp only [State.seg] at this; omega, fun c e => by have := ((ok g).2 c e).1; omega⟩
  have runs : (s.port.low.isSome = true ↔ s.port.state ≠ .idle ∧ s.port.state ≠ .notAddressed ∧ s.port.stretch = none)
      ↔ s.port.low.isSome = (s.port.state != .idle && s.port.state != .notAddressed && s.port.stretch.isNone) := by
    generalize s.port.state = st, s.port.stretch = x, s.port.low = low
    cases st <;> cases x <;> cases low <;> simp
  constructor
  · intro ⟨a, b, c, d, e, f⟩
    exact ⟨fun g => ⟨limits g, fun n h => e g n h, fun n h => f g n h⟩, ⟨runs.mp a, b, c⟩, d⟩
  · intro ⟨a, ⟨b, c, d⟩, e⟩
    exact ⟨runs.mpr b, c, d, e, fun g n h => (a g).2.1 n h, fun g n h => (a g).2.2 n h⟩

/-! ### The state of a segment, which the operations on slots, frames, claims and outcomes leave as it is -/

@[simp] theorem state_set {segs : PerSegment Segment} {g : Seg} {x : Segment} (h : Seg)
    (same : x.state = (segs.get g).state) : ((segs.set g x).get h).state = (segs.get h).state := by
  rw [PerSegment.get_set]
  split
  · rename_i e
    rw [e, same]
  · rfl

theorem state_foldl {α : Type} (f : State → α → State)
    (step : ∀ s x h, ((f s x).segs.get h).state = (s.segs.get h).state) (l : List α) (s : State) (h : Seg) :
    ((l.foldl f s).segs.get h).state = (s.segs.get h).state := by
  induction l generalizing s with
  | nil => rfl
  | cons x l ih => exact (ih _).trans (step s x h)

@[simp] theorem state_raiseSlot {s : State} (i : SlotId) (f : SlotFlag) (h : Seg) :
    (((s.raiseSlot i f).segs).get h).state = (s.segs.get h).state := rfl
@[simp] theorem state_raiseSlotIf {s : State} (c : Bool) (i : SlotId) (f : SlotFlag) (h : Seg) :
    (((s.raiseSlotIf c i f).segs).get h).state = (s.segs.get h).state := by
  simp only [State.raiseSlotIf]
  (repeat' split) <;> simp -implicitDefEqProofs (maxDischargeDepth := 20) []
@[simp] theorem state_raiseSeg {s : State} (g : Seg) (f : SegFlag) (h : Seg) :
    (((s.raiseSeg g f).segs).get h).state = (s.segs.get h).state := rfl
@[simp] theorem state_clearSlotFlags {s : State} (i : SlotId) (h : Seg) :
    (((s.clearSlotFlags i).segs).get h).state = (s.segs.get h).state := rfl
@[simp] theorem state_clearFrame {s : State} (f : FrameId) (h : Seg) :
    (((s.clearFrame f).segs).get h).state = (s.segs.get h).state := rfl
@[simp] theorem state_setStage {s : State} (st : Stage) (h : Seg) :
    (((s.setStage st).segs).get h).state = (s.segs.get h).state := rfl
@[simp] theorem state_releaseFill {s : State} (h : Seg) :
    (((s.releaseFill).segs).get h).state = (s.segs.get h).state := by
  simp only [State.releaseFill]
  (repeat' split) <;> simp -implicitDefEqProofs (maxDischargeDepth := 20) []
@[simp] theorem state_clearFrames {s : State} (fs : List FrameId) (h : Seg) :
    (((s.clearFrames fs).segs).get h).state = (s.segs.get h).state := state_foldl _ (fun _ _ k => state_clearFrame _ k) _ _ h
@[simp] theorem state_purgeSlot {s : State} (i : SlotId) (h : Seg) :
    (((s.purgeSlot i).segs).get h).state = (s.segs.get h).state := by
  simp only [State.purgeSlot]
  (repeat' split) <;> simp -implicitDefEqProofs (maxDischargeDepth := 20) [State.seg]
@[simp] theorem state_freeSlot {s : State} (i : SlotId) (a b : Bool) (h : Seg) :
    (((s.freeSlot i a b).segs).get h).state = (s.segs.get h).state := by
  simp only [State.freeSlot]
  simp -implicitDefEqProofs (maxDischargeDepth := 20) []
@[simp] theorem state_applyRetire {s : State} (i : SlotId) (c : Drain) (b : Bool) (h : Seg) :
    (((s.applyRetire i c b).segs).get h).state = (s.segs.get h).state := by
  simp only [State.applyRetire]
  (repeat' split) <;> simp -implicitDefEqProofs (maxDischargeDepth := 20) []
@[simp] theorem state_applyModify {s : State} (i : SlotId) (r : RouteRecord) (h : Seg) :
    (((s.applyModify i r).segs).get h).state = (s.segs.get h).state := rfl
@[simp] theorem state_examinePending {s : State} (i : SlotId) (b : Bool) (h : Seg) :
    (((s.examinePending i b).segs).get h).state = (s.segs.get h).state := by
  simp only [State.examinePending]
  (repeat' split) <;> simp -implicitDefEqProofs (maxDischargeDepth := 20) []
@[simp] theorem state_drainingExit {s : State} (i : SlotId) (b : Bool) (h : Seg) :
    (((s.drainingExit i b).segs).get h).state = (s.segs.get h).state := by
  simp only [State.drainingExit]
  (repeat' split) <;> simp -implicitDefEqProofs (maxDischargeDepth := 20) []
@[simp] theorem state_examine {s : State} (i : SlotId) (b : Bool) (h : Seg) :
    (((s.examine i b).segs).get h).state = (s.segs.get h).state := by
  simp only [State.examine]
  simp -implicitDefEqProofs (maxDischargeDepth := 20) []
@[simp] theorem state_nackUp {s : State} (b : Bool) (h : Seg) :
    (((s.nackUp b).segs).get h).state = (s.segs.get h).state := rfl
@[simp] theorem state_breakUp {s : State} (h : Seg) :
    (((s.breakUp).segs).get h).state = (s.segs.get h).state := by
  simp only [State.breakUp]
  (repeat' split) <;> simp -implicitDefEqProofs (maxDischargeDepth := 20) []
@[simp] theorem state_dropCompound {s : State} (t : Txn) (h : Seg) :
    (((s.dropCompound t).segs).get h).state = (s.segs.get h).state := by
  simp only [State.dropCompound]
  (repeat' split) <;> simp -implicitDefEqProofs (maxDischargeDepth := 20) []
@[simp] theorem state_dropTxn {s : State} (t : Txn) (h : Seg) :
    (((s.dropTxn t).segs).get h).state = (s.segs.get h).state := by
  simp only [State.dropTxn]
  simp -implicitDefEqProofs (maxDischargeDepth := 20) [State.seg]
@[simp] theorem state_withdraw {s : State} (t : Txn) (h : Seg) :
    (((s.withdraw t).segs).get h).state = (s.segs.get h).state := by
  simp only [State.withdraw]
  simp -implicitDefEqProofs (maxDischargeDepth := 20) []
@[simp] theorem state_abortWaiting {s : State} (p : Txn → Bool) (h : Seg) :
    (((s.abortWaiting p).segs).get h).state = (s.segs.get h).state := by
  simp only [State.abortWaiting]
  (repeat' split) <;> simp -implicitDefEqProofs (maxDischargeDepth := 20) []
@[simp] theorem state_quarantine {s : State} (i : SlotId) (h : Seg) :
    (((s.quarantine i).segs).get h).state = (s.segs.get h).state := by
  simp only [State.quarantine]
  simp -implicitDefEqProofs (maxDischargeDepth := 20) []
@[simp] theorem state_countFault {s : State} (i : SlotId) (h : Seg) :
    (((s.countFault i).segs).get h).state = (s.segs.get h).state := by
  simp only [State.countFault]
  (repeat' split) <;> simp -implicitDefEqProofs (maxDischargeDepth := 20) []
@[simp] theorem state_count {s : State} (i : SlotId) (g : Seg) (k : OutcomeKind) (h : Seg) :
    (((s.count i g k).segs).get h).state = (s.segs.get h).state := by
  simp only [State.count]
  (repeat' split) <;> simp -implicitDefEqProofs (maxDischargeDepth := 20) []
@[simp] theorem state_report {s : State} (i : SlotId) (g : Seg) (k : OutcomeKind) (b : Bool) (h : Seg) :
    (((s.report i g k b).segs).get h).state = (s.segs.get h).state := by
  simp only [State.report]
  simp -implicitDefEqProofs (maxDischargeDepth := 20) []
@[simp] theorem state_reportTxn {s : State} (k : OutcomeKind) (h : Seg) :
    (((s.reportTxn k).segs).get h).state = (s.segs.get h).state := by
  simp only [State.reportTxn]
  (repeat' split) <;> simp -implicitDefEqProofs (maxDischargeDepth := 20) []
@[simp] theorem state_endDelivery {s : State} (g : Seg) (f : FrameId) (k : OutcomeKind) (b : Bool) (h : Seg) :
    (((s.endDelivery g f k b).segs).get h).state = (s.segs.get h).state := by
  simp only [State.endDelivery]
  (repeat' split) <;> simp -implicitDefEqProofs (maxDischargeDepth := 20) [State.seg]
@[simp] theorem state_lostFrames {s : State} (i : SlotId) (h : Seg) :
    (((s.lostFrames i).segs).get h).state = (s.segs.get h).state := by
  simp only [State.lostFrames]
  (repeat' split) <;> simp -implicitDefEqProofs (maxDischargeDepth := 20) []
@[simp] theorem state_purgeSegment {s : State} (g : Seg) (h : Seg) :
    (((s.purgeSegment g).segs).get h).state = (s.segs.get h).state := by
  unfold State.purgeSegment
  refine (state_foldl _ (fun _ i k => state_lostFrames i k) _ _ h).trans ((state_clearFrames _ h).trans ?_)
  simp -implicitDefEqProofs [State.seg]
@[simp] theorem state_orphanFill {s : State} (g : Seg) (h : Seg) :
    (((s.orphanFill g).segs).get h).state = (s.segs.get h).state := by
  simp only [State.orphanFill]
  (repeat' split) <;> simp -implicitDefEqProofs (maxDischargeDepth := 20) []
@[simp] theorem state_abortDiscovery {s : State} (g : Seg) (h : Seg) :
    (((s.abortDiscovery g).segs).get h).state = (s.segs.get h).state := by
  simp only [State.abortDiscovery]
  (repeat' split) <;> simp -implicitDefEqProofs (maxDischargeDepth := 20) []
@[simp] theorem state_identifyResult {s : State} (g : Seg) (a : Option Bool) (b : Option Byte) (h : Seg) :
    (((s.identifyResult g a b).segs).get h).state = (s.segs.get h).state := by
  simp only [State.identifyResult]
  (repeat' split) <;> simp -implicitDefEqProofs (maxDischargeDepth := 20) []
@[simp] theorem state_endIdentify {s : State} (g : Seg) (a : Option Bool) (b : Option Byte) (h : Seg) :
    (((s.endIdentify g a b).segs).get h).state = (s.segs.get h).state := by
  simp only [State.endIdentify]
  (repeat' split) <;> simp -implicitDefEqProofs (maxDischargeDepth := 20) [State.seg]
@[simp] theorem state_reviveSlot {s : State} (g : Seg) (i : SlotId) (h : Seg) :
    (((State.reviveSlot g s i).segs).get h).state = (s.segs.get h).state := by
  simp only [State.reviveSlot]
  (repeat' split) <;> simp -implicitDefEqProofs (maxDischargeDepth := 20) []
@[simp] theorem state_completeDiscovery {s : State} (g : Seg) (h : Seg) :
    (((s.completeDiscovery g).segs).get h).state = (s.segs.get h).state := by
  unfold State.completeDiscovery
  refine (state_foldl _ (fun _ i k => state_reviveSlot g i k) _ _ h).trans ((state_raiseSeg _ _ h).trans ?_)
  simp -implicitDefEqProofs [State.seg]
@[simp] theorem state_advanceCursor {s : State} (g : Seg) (h : Seg) :
    (((s.advanceCursor g).segs).get h).state = (s.segs.get h).state := by
  simp only [State.advanceCursor]
  (repeat' split) <;> simp -implicitDefEqProofs (maxDischargeDepth := 20) [State.seg]
@[simp] theorem state_finishWork {s : State} (g : Seg) (d : Down) (h : Seg) :
    (((s.finishWork g d).segs).get h).state = (s.segs.get h).state := by
  simp only [State.finishWork]
  (repeat' split) <;> simp -implicitDefEqProofs (maxDischargeDepth := 20) []
@[simp] theorem state_leaveService {s : State} (g : Seg) (x : SegState) (h : Seg) :
    (((s.leaveService g x).segs).get h).state = if h = g then x else (s.segs.get h).state := by
  by_cases e : h = g <;>
    simp -implicitDefEqProofs (maxDischargeDepth := 20) [State.leaveService, State.seg, PerSegment.get_set, e]

/-! ### One lemma for each operation: the segments -/

theorem segs_timed_foldl {α : Type} (f : State → α → State)
    (step : ∀ s x, SegsTimed s.segs → SegsTimed (f s x).segs) (l : List α) (s : State)
    (ok : SegsTimed s.segs) : SegsTimed (l.foldl f s).segs := by
  induction l generalizing s with
  | nil => exact ok
  | cons x l ih => exact ih _ (step s x ok)

@[simp] theorem segs_timed_raiseSlot {s : State} (i : SlotId) (f : SlotFlag) (ok : SegsTimed s.segs) :
    SegsTimed (s.raiseSlot i f).segs := ok
@[simp] theorem segs_timed_raiseSlotIf {s : State} (c : Bool) (i : SlotId) (f : SlotFlag) (ok : SegsTimed s.segs) :
    SegsTimed (s.raiseSlotIf c i f).segs := by
  unfold State.raiseSlotIf
  split <;> exact ok
@[simp] theorem segs_timed_raiseSeg {s : State} (g : Seg) (f : SegFlag) (ok : SegsTimed s.segs) :
    SegsTimed (s.raiseSeg g f).segs := ok
@[simp] theorem segs_timed_clearSlotFlags {s : State} (i : SlotId) (ok : SegsTimed s.segs) :
    SegsTimed (s.clearSlotFlags i).segs := ok
@[simp] theorem segs_timed_clearFrame {s : State} (f : FrameId) (ok : SegsTimed s.segs) :
    SegsTimed (s.clearFrame f).segs := ok
@[simp] theorem segs_timed_setDown {s : State} (g : Seg) (d : Down) (ok : SegsTimed s.segs) :
    SegsTimed (s.setDown g d).segs := by
  simp only [State.setDown]
  simp -implicitDefEqProofs (maxDischargeDepth := 20) [State.seg, ok]
@[simp] theorem segs_timed_notePresence {s : State} (g : Seg) (a : Addr7) (ack : Bool) (ok : SegsTimed s.segs) :
    SegsTimed (s.notePresence g a ack).segs := by
  simp only [State.notePresence]
  split
  · refine ok.set ?_
    simp [State.seg, ok]
  · exact ok
@[simp] theorem segs_timed_mapDown {s : State} (g : Seg) (f : Down → Down) (ok : SegsTimed s.segs) :
    SegsTimed (s.mapDown g f).segs := by
  simp only [State.mapDown]
  simp -implicitDefEqProofs (maxDischargeDepth := 20) [State.seg, ok]
@[simp] theorem segs_timed_endDownAtBoundary {s : State} (g : Seg) (ok : SegsTimed s.segs) :
    SegsTimed (s.endDownAtBoundary g).segs := by
  simp only [State.endDownAtBoundary]
  simp -implicitDefEqProofs (maxDischargeDepth := 20) [ok]
@[simp] theorem segs_timed_own {s : State} (g : Seg) (d : Down) (n : Nat) (ok : SegsTimed s.segs) :
    SegsTimed (s.own g d n).segs := by
  simp only [State.own]
  refine ok.set ?_
  refine ⟨(ok g).1, nofun, fun n e => ?_⟩
  simp only [Segment.withDown, if_true] at e
  split at e
  · cases e
  · simp only [Option.some.injEq] at e
    subst e
    exact ⟨(ok g).1.1, by simp [Segment.withDown]⟩
@[simp] theorem segs_timed_setStage {s : State} (st : Stage) (ok : SegsTimed s.segs) :
    SegsTimed (s.setStage st).segs := ok
@[simp] theorem segs_timed_grant {s : State} (g : Seg) (x : Grant) (ok : SegsTimed s.segs) :
    SegsTimed (s.grant g x).segs := by
  simp only [State.grant]
  (repeat' split) <;> simp -implicitDefEqProofs (maxDischargeDepth := 20) [ok]
@[simp] theorem segs_timed_arbitrate {s : State} (g : Seg) (ok : SegsTimed s.segs) :
    SegsTimed (s.arbitrate g).segs := by
  simp only [State.arbitrate]
  (repeat' split) <;> simp -implicitDefEqProofs (maxDischargeDepth := 20) [ok]
@[simp] theorem segs_timed_releaseFill {s : State} (ok : SegsTimed s.segs) :
    SegsTimed (s.releaseFill).segs := by
  unfold State.releaseFill
  split <;> exact ok
@[simp] theorem segs_timed_clearFrames {s : State} (fs : List FrameId) (ok : SegsTimed s.segs) :
    SegsTimed (s.clearFrames fs).segs := segs_timed_foldl _ (fun _ _ k => segs_timed_clearFrame _ k) _ _ ok
@[simp] theorem segs_timed_purgeSlot {s : State} (i : SlotId) (ok : SegsTimed s.segs) :
    SegsTimed (s.purgeSlot i).segs := by
  simp only [State.purgeSlot]
  (repeat' split) <;> simp -implicitDefEqProofs (maxDischargeDepth := 20) [State.seg, ok]
@[simp] theorem segs_timed_freeSlot {s : State} (i : SlotId) (a b : Bool) (ok : SegsTimed s.segs) :
    SegsTimed (s.freeSlot i a b).segs := by
  simp only [State.freeSlot]
  simp -implicitDefEqProofs (maxDischargeDepth := 20) [ok]
@[simp] theorem segs_timed_applyRetire {s : State} (i : SlotId) (c : Drain) (b : Bool) (ok : SegsTimed s.segs) :
    SegsTimed (s.applyRetire i c b).segs := by
  simp only [State.applyRetire]
  (repeat' split) <;> simp -implicitDefEqProofs (maxDischargeDepth := 20) [ok]
@[simp] theorem segs_timed_applyModify {s : State} (i : SlotId) (r : RouteRecord) (ok : SegsTimed s.segs) :
    SegsTimed (s.applyModify i r).segs := ok
@[simp] theorem segs_timed_examinePending {s : State} (i : SlotId) (b : Bool) (ok : SegsTimed s.segs) :
    SegsTimed (s.examinePending i b).segs := by
  simp only [State.examinePending]
  (repeat' split) <;> simp -implicitDefEqProofs (maxDischargeDepth := 20) [ok]
@[simp] theorem segs_timed_drainingExit {s : State} (i : SlotId) (b : Bool) (ok : SegsTimed s.segs) :
    SegsTimed (s.drainingExit i b).segs := by
  simp only [State.drainingExit]
  (repeat' split) <;> simp -implicitDefEqProofs (maxDischargeDepth := 20) [ok]
@[simp] theorem segs_timed_examine {s : State} (i : SlotId) (b : Bool) (ok : SegsTimed s.segs) :
    SegsTimed (s.examine i b).segs := by
  simp only [State.examine]
  simp -implicitDefEqProofs (maxDischargeDepth := 20) [ok]
@[simp] theorem segs_timed_nackUp {s : State} (b : Bool) (ok : SegsTimed s.segs) :
    SegsTimed (s.nackUp b).segs := ok
@[simp] theorem segs_timed_breakUp {s : State} (ok : SegsTimed s.segs) :
    SegsTimed (s.breakUp).segs := by
  unfold State.breakUp
  split <;> exact ok
@[simp] theorem segs_timed_dropCompound {s : State} (t : Txn) (ok : SegsTimed s.segs) :
    SegsTimed (s.dropCompound t).segs := by
  simp only [State.dropCompound]
  (repeat' split) <;> simp -implicitDefEqProofs (maxDischargeDepth := 20) [ok]
@[simp] theorem segs_timed_dropTxn {s : State} (t : Txn) (ok : SegsTimed s.segs) :
    SegsTimed (s.dropTxn t).segs := by
  simp only [State.dropTxn]
  simp -implicitDefEqProofs (maxDischargeDepth := 20) [State.seg, ok]
@[simp] theorem segs_timed_withdraw {s : State} (t : Txn) (ok : SegsTimed s.segs) :
    SegsTimed (s.withdraw t).segs := by
  simp only [State.withdraw]
  simp -implicitDefEqProofs (maxDischargeDepth := 20) [ok]
@[simp] theorem segs_timed_abortWaiting {s : State} (p : Txn → Bool) (ok : SegsTimed s.segs) :
    SegsTimed (s.abortWaiting p).segs := by
  simp only [State.abortWaiting]
  (repeat' split) <;> simp -implicitDefEqProofs (maxDischargeDepth := 20) [ok]
@[simp] theorem segs_timed_placeClaim {s : State} (w : Wait) (ok : SegsTimed s.segs) :
    SegsTimed (s.placeClaim w).segs := by
  simp only [State.placeClaim]
  (repeat' split) <;> simp -implicitDefEqProofs (maxDischargeDepth := 20) [State.seg, ok]
@[simp] theorem segs_timed_dropDeferred {s : State} (w : Wait) (ok : SegsTimed s.segs) :
    SegsTimed (s.dropDeferred w).segs := by
  simp only [State.dropDeferred]
  (repeat' split) <;> simp -implicitDefEqProofs (maxDischargeDepth := 20) [ok]
@[simp] theorem segs_timed_recheckDeferred {s : State} (ok : SegsTimed s.segs) :
    SegsTimed (s.recheckDeferred).segs := by
  simp only [State.recheckDeferred]
  (repeat' split) <;> simp -implicitDefEqProofs (maxDischargeDepth := 20) [ok]
@[simp] theorem segs_timed_quarantine {s : State} (i : SlotId) (ok : SegsTimed s.segs) :
    SegsTimed (s.quarantine i).segs := by
  simp only [State.quarantine]
  simp -implicitDefEqProofs (maxDischargeDepth := 20) [ok]
@[simp] theorem segs_timed_countFault {s : State} (i : SlotId) (ok : SegsTimed s.segs) :
    SegsTimed (s.countFault i).segs := by
  simp only [State.countFault]
  (repeat' split) <;> simp -implicitDefEqProofs (maxDischargeDepth := 20) [ok]
@[simp] theorem segs_timed_count {s : State} (i : SlotId) (g : Seg) (k : OutcomeKind) (ok : SegsTimed s.segs) :
    SegsTimed (s.count i g k).segs := by
  simp only [State.count]
  (repeat' split) <;> simp -implicitDefEqProofs (maxDischargeDepth := 20) [ok]
@[simp] theorem segs_timed_report {s : State} (i : SlotId) (g : Seg) (k : OutcomeKind) (b : Bool) (ok : SegsTimed s.segs) :
    SegsTimed (s.report i g k b).segs := by
  simp only [State.report]
  simp -implicitDefEqProofs (maxDischargeDepth := 20) [ok]
@[simp] theorem segs_timed_reportTxn {s : State} (k : OutcomeKind) (ok : SegsTimed s.segs) :
    SegsTimed (s.reportTxn k).segs := by
  simp only [State.reportTxn]
  (repeat' split) <;> simp -implicitDefEqProofs (maxDischargeDepth := 20) [ok]
@[simp] theorem segs_timed_endTxn {s : State} (k : OutcomeKind) (ok : SegsTimed s.segs) :
    SegsTimed (s.endTxn k).segs := by
  simp only [State.endTxn]
  simp -implicitDefEqProofs (maxDischargeDepth := 20) [ok]
@[simp] theorem segs_timed_endDelivery {s : State} (g : Seg) (f : FrameId) (k : OutcomeKind) (b : Bool) (ok : SegsTimed s.segs) :
    SegsTimed (s.endDelivery g f k b).segs := by
  simp only [State.endDelivery]
  (repeat' split) <;> simp -implicitDefEqProofs (maxDischargeDepth := 20) [State.seg, ok]
@[simp] theorem segs_timed_endUpstream {s : State} (f : Txn → Txn) (ok : SegsTimed s.segs) :
    SegsTimed (s.endUpstream f).segs := by
  simp only [State.endUpstream]
  (repeat' split) <;> simp -implicitDefEqProofs (maxDischargeDepth := 20) [ok]
@[simp] theorem segs_timed_lostFrames {s : State} (i : SlotId) (ok : SegsTimed s.segs) :
    SegsTimed (s.lostFrames i).segs := by
  simp only [State.lostFrames]
  (repeat' split) <;> simp -implicitDefEqProofs (maxDischargeDepth := 20) [ok]
@[simp] theorem segs_timed_purgeSegment {s : State} (g : Seg) (ok : SegsTimed s.segs) :
    SegsTimed (s.purgeSegment g).segs := by
  unfold State.purgeSegment
  refine segs_timed_foldl _ (fun _ i k => segs_timed_lostFrames i k) _ _ (segs_timed_clearFrames _ ?_)
  simp -implicitDefEqProofs [State.seg, ok]
@[simp] theorem segs_timed_orphanFill {s : State} (g : Seg) (ok : SegsTimed s.segs) :
    SegsTimed (s.orphanFill g).segs := by
  simp only [State.orphanFill]
  (repeat' split) <;> simp -implicitDefEqProofs (maxDischargeDepth := 20) [ok]
@[simp] theorem segs_timed_abortDiscovery {s : State} (g : Seg) (ok : SegsTimed s.segs) :
    SegsTimed (s.abortDiscovery g).segs := by
  unfold State.abortDiscovery
  split <;> exact ok
@[simp] theorem segs_timed_leaveService {s : State} (g : Seg) (x : SegState) (ok : SegsTimed s.segs) :
    SegsTimed (s.leaveService g x).segs := by
  unfold State.leaveService
  dsimp only
  have stopped : SegsTimed (s.setSeg g { s.seg g with state := x, down := none, busFree := none, low := none }).segs :=
    ok.set ((segTimed_stopped _ _ _).mpr (ok g).1)
  have left := segs_timed_abortDiscovery g (segs_timed_orphanFill g (segs_timed_purgeSegment g
    (segs_timed_abortWaiting (fun t => decide (t.seg = g)) stopped)))
  exact left.set (left g)
theorem segs_timed_install {s : State} (g : Seg) (c : SegConfig) (fits : 1 ≤ c.lowLimit)
    (still : ¬((s.seg g).state = .external ∨ (s.seg g).state = .owned ∨ (s.seg g).state = .recovering))
    (ok : SegsTimed s.segs) :
    SegsTimed (s.install g c).segs := by
  have first : SegsTimed (s.setSeg g { s.seg g with cfg := c, next := none }).segs :=
    ok.set ⟨⟨fits, nofun⟩, (ok g).2.1, fun n e => absurd ((ok g).2.2 n e).2 still⟩
  unfold State.install
  dsimp only
  (repeat' split)
  · refine first.set ?_
    simp only [Segment.enabled, seg_setSeg_same]
    split
    · exact (segTimed_busFree _ _).mpr ⟨fits, nofun⟩
    · exact (segTimed_stopped _ _ _).mpr ⟨fits, nofun⟩
  · exact first
  · exact first
  · exact segs_timed_leaveService _ _ first
theorem segs_timed_installNext {s : State} (g : Seg)
    (still : ¬((s.seg g).state = .external ∨ (s.seg g).state = .owned ∨ (s.seg g).state = .recovering))
    (ok : SegsTimed s.segs) :
    SegsTimed (s.installNext g).segs := by
  unfold State.installNext
  split
  · rename_i held
    exact segs_timed_install _ _ ((ok g).1.2 _ held) still ok
  · exact ok
@[simp] theorem segs_timed_freeLines {s : State} (g : Seg) (ok : SegsTimed s.segs) :
    SegsTimed (s.freeLines g).segs := by
  simp only [State.freeLines]
  simp -implicitDefEqProofs (maxDischargeDepth := 20) [State.seg, ok]
@[simp] theorem segs_timed_enterIdle {s : State} (g : Seg) (ok : SegsTimed s.segs) :
    SegsTimed (s.enterIdle g).segs := by
  unfold State.enterIdle
  exact segs_timed_arbitrate g (segs_timed_installNext g (by simp [State.freeLines, State.seg]) (segs_timed_freeLines g ok))
@[simp] theorem segs_timed_beginRecovery {s : State} (g : Seg) (ok : SegsTimed s.segs) :
    SegsTimed (s.beginRecovery g).segs := by
  simp only [State.beginRecovery]
  simp -implicitDefEqProofs (maxDischargeDepth := 20) [State.seg, ok]
@[simp] theorem segs_timed_withdrawAt {s : State} (g : Seg) (ok : SegsTimed s.segs) :
    SegsTimed (s.withdrawAt g).segs := by
  simp only [State.withdrawAt]
  simp -implicitDefEqProofs (maxDischargeDepth := 20) [ok]
@[simp] theorem segs_timed_failRecovery {s : State} (g : Seg) (ok : SegsTimed s.segs) :
    SegsTimed (s.failRecovery g).segs := by
  unfold State.failRecovery
  exact segs_timed_installNext g (by simp [State.seg]) (segs_timed_raiseSeg _ _ (segs_timed_leaveService _ _ ok))
@[simp] theorem segs_timed_succeedRecovery {s : State} (g : Seg) (ok : SegsTimed s.segs) :
    SegsTimed (s.succeedRecovery g).segs := by
  simp only [State.succeedRecovery]
  simp -implicitDefEqProofs (maxDischargeDepth := 20) [State.seg, ok]
@[simp] theorem segs_timed_identifyResult {s : State} (g : Seg) (a : Option Bool) (b : Option Byte) (ok : SegsTimed s.segs) :
    SegsTimed (s.identifyResult g a b).segs := by
  simp only [State.identifyResult]
  (repeat' split) <;> simp -implicitDefEqProofs (maxDischargeDepth := 20) [ok]
@[simp] theorem segs_timed_endIdentify {s : State} (g : Seg) (a : Option Bool) (b : Option Byte) (ok : SegsTimed s.segs) :
    SegsTimed (s.endIdentify g a b).segs := by
  unfold State.endIdentify
  dsimp only
  have result := segs_timed_identifyResult g a b ok
  split
  · exact segs_timed_raiseSeg _ _ (result.set (result g))
  · exact result.set (result g)
@[simp] theorem segs_timed_reviveSlot {s : State} (g : Seg) (i : SlotId) (ok : SegsTimed s.segs) :
    SegsTimed (State.reviveSlot g s i).segs := by
  simp only [State.reviveSlot]
  (repeat' split) <;> simp -implicitDefEqProofs (maxDischargeDepth := 20) [ok]
@[simp] theorem segs_timed_completeDiscovery {s : State} (g : Seg) (ok : SegsTimed s.segs) :
    SegsTimed (s.completeDiscovery g).segs := by
  unfold State.completeDiscovery
  refine segs_timed_foldl _ (fun _ i k => segs_timed_reviveSlot g i k) _ _ (segs_timed_raiseSeg _ _ ?_)
  simp -implicitDefEqProofs [State.seg, ok]
@[simp] theorem segs_timed_advanceCursor {s : State} (g : Seg) (ok : SegsTimed s.segs) :
    SegsTimed (s.advanceCursor g).segs := by
  simp only [State.advanceCursor]
  (repeat' split) <;> simp -implicitDefEqProofs (maxDischargeDepth := 20) [State.seg, ok]
@[simp] theorem segs_timed_dropDown {s : State} (g : Seg) (ok : SegsTimed s.segs) :
    SegsTimed (s.dropDown g).segs := by
  simp only [State.dropDown]
  simp -implicitDefEqProofs (maxDischargeDepth := 20) [State.seg, ok]
@[simp] theorem segs_timed_finishWork {s : State} (g : Seg) (d : Down) (ok : SegsTimed s.segs) :
    SegsTimed (s.finishWork g d).segs := by
  simp only [State.finishWork]
  (repeat' split) <;> simp -implicitDefEqProofs (maxDischargeDepth := 20) [ok]
@[simp] theorem segs_timed_beginStretch {s : State} (ok : SegsTimed s.segs) :
    SegsTimed (s.beginStretch).segs := ok
@[simp] theorem segs_timed_endStretch {s : State} (a : UpOut) (ok : SegsTimed s.segs) :
    SegsTimed (s.endStretch a).segs := ok
@[simp] theorem segs_timed_rejectFill {s : State} (i : SlotId) (f : SlotFlag) (ok : SegsTimed s.segs) :
    SegsTimed (s.rejectFill i f).segs := by
  simp only [State.rejectFill]
  simp -implicitDefEqProofs (maxDischargeDepth := 20) [ok]
@[simp] theorem segs_timed_queueFill {s : State} (p : Fill) (ok : SegsTimed s.segs) :
    SegsTimed (s.queueFill p).segs := by
  simp only [State.queueFill]
  simp -implicitDefEqProofs (maxDischargeDepth := 20) [State.seg, ok]
@[simp] theorem segs_timed_closeFill {s : State} (ok : SegsTimed s.segs) :
    SegsTimed (s.closeFill).segs := by
  simp only [State.closeFill]
  (repeat' split) <;> simp -implicitDefEqProofs (maxDischargeDepth := 20) [ok]
@[simp] theorem segs_timed_endHeld {s : State} (ok : SegsTimed s.segs) :
    SegsTimed (s.endHeld).segs := by
  simp only [State.endHeld]
  (repeat' split) <;> simp -implicitDefEqProofs (maxDischargeDepth := 20) [ok]
@[simp] theorem segs_timed_withhold {s : State} (w : Wait) (ok : SegsTimed s.segs) :
    SegsTimed (s.withhold w).segs := by
  simp only [State.withhold]
  (repeat' split) <;> simp -implicitDefEqProofs (maxDischargeDepth := 20) [ok]
@[simp] theorem segs_timed_decideRouted {s : State} (i : SlotId) (r : Bool) (x : Option (BitVec 2)) (ok : SegsTimed s.segs) :
    SegsTimed (s.decideRouted i r x).segs := by
  simp only [State.decideRouted]
  (repeat' split) <;> simp -implicitDefEqProofs (maxDischargeDepth := 20) [ok]
@[simp] theorem segs_timed_continueHeld {s : State} (i : SlotId) (r : Bool) (x : Option (BitVec 2)) (ok : SegsTimed s.segs) :
    SegsTimed (s.continueHeld i r x).segs := by
  simp only [State.continueHeld]
  (repeat' split) <;> simp -implicitDefEqProofs (maxDischargeDepth := 20) [ok]
@[simp] theorem segs_timed_compoundRead {s : State} (i : SlotId) (ok : SegsTimed s.segs) :
    SegsTimed (s.compoundRead i).segs := by
  simp only [State.compoundRead]
  (repeat' split) <;> simp -implicitDefEqProofs (maxDischargeDepth := 20) [ok]
@[simp] theorem segs_timed_settleSame {s : State} (h : Held) (r : Bool) (x : Option (BitVec 2)) (ok : SegsTimed s.segs) :
    SegsTimed (s.settleSame h r x).segs := by
  simp only [State.settleSame]
  (repeat' split) <;> simp -implicitDefEqProofs (maxDischargeDepth := 20) [ok]
@[simp] theorem segs_timed_decideSlot {s : State} (i : SlotId) (r : Bool) (x : Option (BitVec 2)) (ok : SegsTimed s.segs) :
    SegsTimed (s.decideSlot i r x).segs := by
  simp only [State.decideSlot]
  (repeat' split) <;> simp -implicitDefEqProofs (maxDischargeDepth := 20) [ok]
@[simp] theorem segs_timed_refuseAddress {s : State} (b : Bool) (ok : SegsTimed s.segs) :
    SegsTimed (s.refuseAddress b).segs := by
  simp only [State.refuseAddress]
  simp -implicitDefEqProofs (maxDischargeDepth := 20) [ok]
@[simp] theorem segs_timed_acceptMgmt {s : State} (r : Bool) (ok : SegsTimed s.segs) :
    SegsTimed (s.acceptMgmt r).segs := by
  simp only [State.acceptMgmt]
  simp -implicitDefEqProofs (maxDischargeDepth := 20) [ok]
@[simp] theorem segs_timed_clearTen {s : State} (ok : SegsTimed s.segs) :
    SegsTimed (s.clearTen).segs := ok
@[simp] theorem segs_timed_clearTenUnless {s : State} (x : BitVec 2) (ok : SegsTimed s.segs) :
    SegsTimed (s.clearTenUnless x).segs := by
  unfold State.clearTenUnless
  split <;> exact ok
@[simp] theorem segs_timed_decideTenFirst {s : State} (x : BitVec 2) (ok : SegsTimed s.segs) :
    SegsTimed (s.decideTenFirst x).segs := by
  simp only [State.decideTenFirst]
  (repeat' split) <;> simp -implicitDefEqProofs (maxDischargeDepth := 20) [ok]
@[simp] theorem segs_timed_decideTenSecond {s : State} (b : Byte) (ok : SegsTimed s.segs) :
    SegsTimed (s.decideTenSecond b).segs := by
  simp only [State.decideTenSecond]
  (repeat' split) <;> simp -implicitDefEqProofs (maxDischargeDepth := 20) [ok]
@[simp] theorem segs_timed_decideTenRead {s : State} (x : BitVec 2) (ok : SegsTimed s.segs) :
    SegsTimed (s.decideTenRead x).segs := by
  simp only [State.decideTenRead]
  (repeat' split) <;> simp -implicitDefEqProofs (maxDischargeDepth := 20) [ok]
@[simp] theorem segs_timed_decideAddress {s : State} (a : Addr7) (r : Bool) (ok : SegsTimed s.segs) :
    SegsTimed (s.decideAddress a r).segs := by
  simp only [State.decideAddress]
  (repeat' split) <;> simp -implicitDefEqProofs (maxDischargeDepth := 20) [ok]
@[simp] theorem segs_timed_abandonPhase {s : State} (ok : SegsTimed s.segs) :
    SegsTimed (s.abandonPhase).segs := by
  simp only [State.abandonPhase]
  (repeat' split) <;> simp -implicitDefEqProofs (maxDischargeDepth := 20) [ok]
@[simp] theorem segs_timed_toAddress {s : State} (h : Option Held) (x : Option TenMemory) (r : Bool) (ok : SegsTimed s.segs) :
    SegsTimed (s.toAddress h x r).segs := ok
@[simp] theorem segs_timed_pauseTxn {s : State} (ok : SegsTimed s.segs) :
    SegsTimed (s.pauseTxn).segs := by
  simp only [State.pauseTxn]
  (repeat' split) <;> simp -implicitDefEqProofs (maxDischargeDepth := 20) [ok]
@[simp] theorem segs_timed_applyCreate {s : State} (i : SlotId) (r : RouteRecord) (h : Bool) (ok : SegsTimed s.segs) :
    SegsTimed (s.applyCreate i r h).segs := ok
@[simp] theorem segs_timed_placePending {s : State} (i : SlotId) (p : Pending) (ok : SegsTimed s.segs) :
    SegsTimed (s.placePending i p).segs := ok
@[simp] theorem segs_timed_applyEntry {s : State} (e : Entry) (ok : SegsTimed s.segs) :
    SegsTimed (s.applyEntry e).segs := by
  simp only [State.applyEntry]
  (repeat' split) <;> simp -implicitDefEqProofs (maxDischargeDepth := 20) [ok]
@[simp] theorem segs_timed_clearTail {s : State} (g : Seg) (ok : SegsTimed s.segs) :
    SegsTimed (s.clearTail g).segs := by
  simp only [State.clearTail]
  (repeat' split) <;> simp -implicitDefEqProofs (maxDischargeDepth := 20) [ok]
@[simp] theorem segs_timed_holdPhase {s : State} (k : HeldKind) (ok : SegsTimed s.segs) :
    SegsTimed (s.holdPhase k).segs := ok
@[simp] theorem segs_timed_takeMgmtByte {s : State} (b : Byte) (ok : SegsTimed s.segs) :
    SegsTimed (s.takeMgmtByte b).segs := by
  unfold State.takeMgmtByte
  split <;> exact ok
@[simp] theorem segs_timed_sendMgmtByte {s : State} (b : Bool) (ok : SegsTimed s.segs) :
    SegsTimed (s.sendMgmtByte b).segs := ok
@[simp] theorem segs_timed_answer {s : State} (a : UpOut) (ok : SegsTimed s.segs) :
    SegsTimed (s.answer a).segs := ok
@[simp] theorem segs_timed_takeFillByte {s : State} (b : Byte) (ok : SegsTimed s.segs) :
    SegsTimed (s.takeFillByte b).segs := by
  simp only [State.takeFillByte]
  (repeat' split) <;> simp -implicitDefEqProofs (maxDischargeDepth := 20) [ok]
@[simp] theorem segs_timed_takeCtByte {s : State} (b : Byte) (ok : SegsTimed s.segs) :
    SegsTimed (s.takeCtByte b).segs := by
  simp only [State.takeCtByte]
  (repeat' split) <;> simp -implicitDefEqProofs (maxDischargeDepth := 20) [ok]
@[simp] theorem segs_timed_nextReadByte {s : State} (g : Seg) (ok : SegsTimed s.segs) :
    SegsTimed (s.nextReadByte g).segs := by
  simp only [State.nextReadByte]
  simp -implicitDefEqProofs (maxDischargeDepth := 20) [ok]
@[simp] theorem segs_timed_byteClocked {s : State} (ok : SegsTimed s.segs) :
    SegsTimed (s.byteClocked).segs := ok
@[simp] theorem segs_timed_takeReadAck {s : State} (b : Bool) (ok : SegsTimed s.segs) :
    SegsTimed (s.takeReadAck b).segs := by
  simp only [State.takeReadAck]
  (repeat' split) <;> simp -implicitDefEqProofs (maxDischargeDepth := 20) [ok]
@[simp] theorem segs_timed_expireHold {s : State} (ok : SegsTimed s.segs) :
    SegsTimed (s.expireHold).segs := by
  simp only [State.expireHold]
  (repeat' split) <;> simp -implicitDefEqProofs (maxDischargeDepth := 20) [ok]
@[simp] theorem segs_timed_ackUp {s : State} (i : SlotId) (r : Bool) (ok : SegsTimed s.segs) :
    SegsTimed (s.ackUp i r).segs := by
  unfold State.ackUp
  split <;> exact ok
@[simp] theorem segs_timed_routedAddressAnswer {s : State} (g : Seg) (d : Down) (t : Txn) (a : Bool) (ok : SegsTimed s.segs) :
    SegsTimed (s.routedAddressAnswer g d t a).segs := by
  simp only [State.routedAddressAnswer]
  (repeat' split) <;> simp -implicitDefEqProofs (maxDischargeDepth := 20) [ok]
@[simp] theorem segs_timed_takeAddressAnswer {s : State} (g : Seg) (a : Bool) (ok : SegsTimed s.segs) :
    SegsTimed (s.takeAddressAnswer g a).segs := by
  simp only [State.takeAddressAnswer]
  (repeat' split) <;> simp -implicitDefEqProofs (maxDischargeDepth := 20) [ok]
@[simp] theorem segs_timed_takeCtAnswer {s : State} (g : Seg) (a : Bool) (ok : SegsTimed s.segs) :
    SegsTimed (s.takeCtAnswer g a).segs := by
  simp only [State.takeCtAnswer]
  (repeat' split) <;> simp -implicitDefEqProofs (maxDischargeDepth := 20) [ok]
@[simp] theorem segs_timed_takeReadByte {s : State} (g : Seg) (b : Byte) (ok : SegsTimed s.segs) :
    SegsTimed (s.takeReadByte g b).segs := by
  simp only [State.takeReadByte]
  (repeat' split) <;> simp -implicitDefEqProofs (maxDischargeDepth := 20) [ok]
@[simp] theorem segs_timed_loseCompound {s : State} (t : Txn) (ok : SegsTimed s.segs) :
    SegsTimed (s.loseCompound t).segs := by
  simp only [State.loseCompound]
  simp -implicitDefEqProofs (maxDischargeDepth := 20) [ok]
@[simp] theorem segs_timed_returnCompound {s : State} (t : Txn) (ok : SegsTimed s.segs) :
    SegsTimed (s.returnCompound t).segs := by
  simp only [State.returnCompound]
  (repeat' split) <;> simp -implicitDefEqProofs (maxDischargeDepth := 20) [ok]
@[simp] theorem segs_timed_frameOutAnswer {s : State} (g : Seg) (d : Down) (t : Txn) (a : Bool) (ok : SegsTimed s.segs) :
    SegsTimed (s.frameOutAnswer g d t a).segs := by
  simp only [State.frameOutAnswer]
  (repeat' split) <;> simp -implicitDefEqProofs (maxDischargeDepth := 20) [ok]
@[simp] theorem segs_timed_takeFrameOutAnswer {s : State} (g : Seg) (a : Bool) (ok : SegsTimed s.segs) :
    SegsTimed (s.takeFrameOutAnswer g a).segs := by
  simp only [State.takeFrameOutAnswer]
  (repeat' split) <;> simp -implicitDefEqProofs (maxDischargeDepth := 20) [ok]
@[simp] theorem segs_timed_takeDeliveryAddress {s : State} (g : Seg) (a : Bool) (ok : SegsTimed s.segs) :
    SegsTimed (s.takeDeliveryAddress g a).segs := by
  simp only [State.takeDeliveryAddress]
  (repeat' split) <;> simp -implicitDefEqProofs (maxDischargeDepth := 20) [ok]
@[simp] theorem segs_timed_takeDeliveryByte {s : State} (g : Seg) (a : Bool) (ok : SegsTimed s.segs) :
    SegsTimed (s.takeDeliveryByte g a).segs := by
  simp only [State.takeDeliveryByte]
  (repeat' split) <;> simp -implicitDefEqProofs (maxDischargeDepth := 20) [ok]
@[simp] theorem segs_timed_takeProbeAnswer {s : State} (g : Seg) (a : Bool) (ok : SegsTimed s.segs) :
    SegsTimed (s.takeProbeAnswer g a).segs := by
  simp only [State.takeProbeAnswer]
  (repeat' split) <;> simp -implicitDefEqProofs (maxDischargeDepth := 20) [ok]
@[simp] theorem segs_timed_takeIdentifyAddress {s : State} (g : Seg) (a : Bool) (ok : SegsTimed s.segs) :
    SegsTimed (s.takeIdentifyAddress g a).segs := by
  simp only [State.takeIdentifyAddress]
  (repeat' split) <;> simp -implicitDefEqProofs (maxDischargeDepth := 20) [ok]
@[simp] theorem segs_timed_takeIdentifyByte {s : State} (g : Seg) (b : Byte) (ok : SegsTimed s.segs) :
    SegsTimed (s.takeIdentifyByte g b).segs := by
  simp only [State.takeIdentifyByte]
  (repeat' split) <;> simp -implicitDefEqProofs (maxDischargeDepth := 20) [ok]
@[simp] theorem segs_timed_stopOwned {s : State} (g : Seg) (d : Down) (ok : SegsTimed s.segs) :
    SegsTimed (s.stopOwned g d).segs := by
  unfold State.stopOwned
  split
  · exact segs_timed_withdrawAt g (segs_timed_recheckDeferred (segs_timed_finishWork g d (segs_timed_beginRecovery g ok)))
  · exact segs_timed_arbitrate g (segs_timed_recheckDeferred (segs_timed_installNext g
      (by simp [State.freeLines, State.seg]) (segs_timed_finishWork g d (segs_timed_freeLines g ok))))
@[simp] theorem segs_timed_takeStopComplete {s : State} (g : Seg) (ok : SegsTimed s.segs) :
    SegsTimed (s.takeStopComplete g).segs := by
  simp only [State.takeStopComplete]
  (repeat' split) <;> simp -implicitDefEqProofs (maxDischargeDepth := 20) [ok]
@[simp] theorem segs_timed_endUnder {s : State} (t : Txn) (ok : SegsTimed s.segs) :
    SegsTimed (s.endUnder t).segs := by
  simp only [State.endUnder]
  (repeat' split) <;> simp -implicitDefEqProofs (maxDischargeDepth := 20) [ok]
@[simp] theorem segs_timed_failRouted {s : State} (k : OutcomeKind) (ok : SegsTimed s.segs) :
    SegsTimed (s.failRouted k).segs := by
  simp only [State.failRouted]
  (repeat' split) <;> simp -implicitDefEqProofs (maxDischargeDepth := 20) [ok]
@[simp] theorem segs_timed_retryRouted {s : State} (g : Seg) (ok : SegsTimed s.segs) :
    SegsTimed (s.retryRouted g).segs := by
  simp only [State.retryRouted]
  simp -implicitDefEqProofs (maxDischargeDepth := 20) [State.seg, ok]
@[simp] theorem segs_timed_routedLoss {s : State} (g : Seg) (d : Down) (ok : SegsTimed s.segs) :
    SegsTimed (s.routedLoss g d).segs := by
  simp only [State.routedLoss]
  (repeat' split) <;> simp -implicitDefEqProofs (maxDischargeDepth := 20) [ok]
@[simp] theorem segs_timed_deliveryLoss {s : State} (g : Seg) (d : Down) (f : FrameId) (k : Option OutcomeKind) (ok : SegsTimed s.segs) :
    SegsTimed (s.deliveryLoss g d f k).segs := by
  simp only [State.deliveryLoss]
  (repeat' split) <;> simp -implicitDefEqProofs (maxDischargeDepth := 20) [State.seg, ok]
@[simp] theorem segs_timed_takeArbitrationLoss {s : State} (g : Seg) (ok : SegsTimed s.segs) :
    SegsTimed (s.takeArbitrationLoss g).segs := by
  have lost : SegsTimed (s.setSeg g { s.seg g with
      state := .external, down := none, busFree := none, low := some ((s.seg g).low.getD 0) }).segs := by
    refine ok.set ⟨(ok g).1, nofun, fun n e => ?_⟩
    simp only [Option.some.injEq] at e
    refine ⟨?_, Or.inl rfl⟩
    subst e
    cases l : (s.seg g).low with
    | none => exact (ok g).1.1
    | some m => exact ((ok g).2.2 m l).1
  unfold State.takeArbitrationLoss
  dsimp only
  (repeat' split) <;>
    first
      | exact ok
      | exact lost
      | exact segs_timed_routedLoss _ _ lost
      | exact segs_timed_deliveryLoss _ _ _ _ lost
      | exact segs_timed_dropDown _ ok
@[simp] theorem segs_timed_timeoutWork {s : State} (g : Seg) (d : Down) (ok : SegsTimed s.segs) :
    SegsTimed (s.timeoutWork g d).segs := by
  simp only [State.timeoutWork]
  (repeat' split) <;> simp -implicitDefEqProofs (maxDischargeDepth := 20) [ok]
@[simp] theorem segs_timed_takeLowTimeout {s : State} (g : Seg) (ok : SegsTimed s.segs) :
    SegsTimed (s.takeLowTimeout g).segs := by
  simp only [State.takeLowTimeout]
  (repeat' split) <;> simp -implicitDefEqProofs (maxDischargeDepth := 20) [ok]
@[simp] theorem segs_timed_takePulse {s : State} (g : Seg) (a b : Bool) (ok : SegsTimed s.segs) :
    SegsTimed (s.takePulse g a b).segs := by
  have pulsed : ∀ x : Segment, x.state = .recovering → x.cfg = (s.seg g).cfg → x.next = (s.seg g).next →
      x.busFree = (s.seg g).busFree → (s.seg g).state = .recovering → x.low = some 0 → SegsTimed (s.setSeg g x).segs := by
    intro x st cfg next free st' low
    refine ok.set ⟨by rw [cfg, next]; exact (ok g).1, fun n e => ?_, fun n e => ?_⟩
    · rw [st, ← st']
      exact (ok g).2.1 n (free ▸ e)
    · rw [low, Option.some.injEq] at e
      rw [cfg, ← e]
      exact ⟨(ok g).1.1, Or.inr (Or.inr st)⟩
  unfold State.takePulse
  dsimp only
  split
  · rename_i st
    (repeat' split)
    · exact segs_timed_succeedRecovery g ok
    · exact pulsed _ st rfl rfl rfl st rfl
    · exact pulsed _ st rfl rfl rfl st rfl
    · exact segs_timed_failRecovery g ok
  · exact ok
@[simp] theorem segs_timed_takeFree {s : State} (g : Seg) (ok : SegsTimed s.segs) :
    SegsTimed (s.takeFree g).segs := by
  simp only [State.takeFree]
  (repeat' split) <;> simp -implicitDefEqProofs (maxDischargeDepth := 20) [ok]
@[simp] theorem segs_timed_takeExternalStart {s : State} (g : Seg) (ok : SegsTimed s.segs) :
    SegsTimed (s.takeExternalStart g).segs := by
  simp only [State.takeExternalStart]
  (repeat' split) <;> simp -implicitDefEqProofs (maxDischargeDepth := 20) [State.seg, ok]
@[simp] theorem segs_timed_takeAlertFall {s : State} (g : Seg) (ok : SegsTimed s.segs) :
    SegsTimed (s.takeAlertFall g).segs := by
  simp only [State.takeAlertFall]
  (repeat' split) <;> simp -implicitDefEqProofs (maxDischargeDepth := 20) [State.seg, ok]
@[simp] theorem segs_timed_takeAlertRise {s : State} (g : Seg) (ok : SegsTimed s.segs) :
    SegsTimed (s.takeAlertRise g).segs := by
  simp only [State.takeAlertRise]
  simp -implicitDefEqProofs (maxDischargeDepth := 20) [State.seg, ok]

/-! ### One lemma for each operation: the port -/

theorem port_timed_foldl {α : Type} (P : State → Prop) (f : State → α → State) (keep : ∀ s x, P s → P (f s x))
    (step : ∀ s x, P s → Port.timed s.port → Port.timed (f s x).port) (l : List α) (s : State) (p : P s)
    (ok : Port.timed s.port) : Port.timed (l.foldl f s).port := by
  induction l generalizing s with
  | nil => exact ok
  | cons x l ih => exact ih _ (keep s x p) (step s x p ok)

@[simp] theorem port_timed_raiseSlot {s : State} (i : SlotId) (f : SlotFlag)
    (hold : 0 < s.rest.2.2.1.hold) (ok : Port.timed s.port) :
    Port.timed (s.raiseSlot i f).port := ok
@[simp] theorem port_timed_raiseSlotIf {s : State} (c : Bool) (i : SlotId) (f : SlotFlag)
    (hold : 0 < s.rest.2.2.1.hold) (ok : Port.timed s.port) :
    Port.timed (s.raiseSlotIf c i f).port := by
  unfold State.raiseSlotIf
  split <;> exact ok
@[simp] theorem port_timed_raiseSeg {s : State} (g : Seg) (f : SegFlag)
    (hold : 0 < s.rest.2.2.1.hold) (ok : Port.timed s.port) :
    Port.timed (s.raiseSeg g f).port := ok
@[simp] theorem port_timed_clearSlotFlags {s : State} (i : SlotId) (hold : 0 < s.rest.2.2.1.hold) (ok : Port.timed s.port) :
    Port.timed (s.clearSlotFlags i).port := ok
@[simp] theorem port_timed_clearFrame {s : State} (f : FrameId) (hold : 0 < s.rest.2.2.1.hold) (ok : Port.timed s.port) :
    Port.timed (s.clearFrame f).port := ok
@[simp] theorem port_timed_setDown {s : State} (g : Seg) (d : Down) (hold : 0 < s.rest.2.2.1.hold) (ok : Port.timed s.port) :
    Port.timed (s.setDown g d).port := ok
@[simp] theorem port_timed_notePresence {s : State} (g : Seg) (a : Addr7) (ack : Bool)
    (hold : 0 < s.rest.2.2.1.hold) (ok : Port.timed s.port) :
    Port.timed (s.notePresence g a ack).port := by
  unfold State.notePresence
  split <;> exact ok
@[simp] theorem port_timed_mapDown {s : State} (g : Seg) (f : Down → Down)
    (hold : 0 < s.rest.2.2.1.hold) (ok : Port.timed s.port) :
    Port.timed (s.mapDown g f).port := ok
@[simp] theorem port_timed_endDownAtBoundary {s : State} (g : Seg) (hold : 0 < s.rest.2.2.1.hold) (ok : Port.timed s.port) :
    Port.timed (s.endDownAtBoundary g).port := ok
@[simp] theorem port_timed_own {s : State} (g : Seg) (d : Down) (n : Nat)
    (hold : 0 < s.rest.2.2.1.hold) (ok : Port.timed s.port) :
    Port.timed (s.own g d n).port := ok
@[simp] theorem port_timed_setStage {s : State} (st : Stage) (hold : 0 < s.rest.2.2.1.hold) (ok : Port.timed s.port) :
    Port.timed (s.setStage st).port := ok
@[simp] theorem port_timed_grant {s : State} (g : Seg) (x : Grant) (hold : 0 < s.rest.2.2.1.hold) (ok : Port.timed s.port) :
    Port.timed (s.grant g x).port := by
  simp only [State.grant]
  (repeat' split) <;> simp -implicitDefEqProofs (maxDischargeDepth := 20) [Port.timed, ok, hold]
@[simp] theorem port_timed_arbitrate {s : State} (g : Seg) (hold : 0 < s.rest.2.2.1.hold) (ok : Port.timed s.port) :
    Port.timed (s.arbitrate g).port := by
  simp only [State.arbitrate]
  (repeat' split) <;> simp -implicitDefEqProofs (maxDischargeDepth := 20) [Port.timed, ok, hold]
@[simp] theorem port_timed_releaseFill {s : State} (hold : 0 < s.rest.2.2.1.hold) (ok : Port.timed s.port) :
    Port.timed (s.releaseFill).port := by
  unfold State.releaseFill
  split <;> exact ok
@[simp] theorem port_timed_clearFrames {s : State} (fs : List FrameId)
    (hold : 0 < s.rest.2.2.1.hold) (ok : Port.timed s.port) :
    Port.timed (s.clearFrames fs).port := by
  unfold State.clearFrames
  exact port_timed_foldl (fun u => 0 < u.rest.2.2.1.hold) State.clearFrame (fun _ _ h => h) (fun _ _ _ k => k) _ _ hold ok
@[simp] theorem port_timed_purgeSlot {s : State} (i : SlotId) (hold : 0 < s.rest.2.2.1.hold) (ok : Port.timed s.port) :
    Port.timed (s.purgeSlot i).port := by
  simp only [State.purgeSlot]
  (repeat' split) <;> simp -implicitDefEqProofs (maxDischargeDepth := 20) [Port.timed, ok, hold]
@[simp] theorem port_timed_freeSlot {s : State} (i : SlotId) (a b : Bool)
    (hold : 0 < s.rest.2.2.1.hold) (ok : Port.timed s.port) :
    Port.timed (s.freeSlot i a b).port := by
  simp only [State.freeSlot]
  simp -implicitDefEqProofs (maxDischargeDepth := 20) [Port.timed, ok, hold]
@[simp] theorem port_timed_applyRetire {s : State} (i : SlotId) (c : Drain) (b : Bool)
    (hold : 0 < s.rest.2.2.1.hold) (ok : Port.timed s.port) :
    Port.timed (s.applyRetire i c b).port := by
  simp only [State.applyRetire]
  (repeat' split) <;> simp -implicitDefEqProofs (maxDischargeDepth := 20) [Port.timed, ok, hold]
@[simp] theorem port_timed_applyModify {s : State} (i : SlotId) (r : RouteRecord)
    (hold : 0 < s.rest.2.2.1.hold) (ok : Port.timed s.port) :
    Port.timed (s.applyModify i r).port := ok
@[simp] theorem port_timed_examinePending {s : State} (i : SlotId) (b : Bool)
    (hold : 0 < s.rest.2.2.1.hold) (ok : Port.timed s.port) :
    Port.timed (s.examinePending i b).port := by
  simp only [State.examinePending]
  (repeat' split) <;> simp -implicitDefEqProofs (maxDischargeDepth := 20) [Port.timed, ok, hold]
@[simp] theorem port_timed_drainingExit {s : State} (i : SlotId) (b : Bool)
    (hold : 0 < s.rest.2.2.1.hold) (ok : Port.timed s.port) :
    Port.timed (s.drainingExit i b).port := by
  simp only [State.drainingExit]
  (repeat' split) <;> simp -implicitDefEqProofs (maxDischargeDepth := 20) [Port.timed, ok, hold]
@[simp] theorem port_timed_examine {s : State} (i : SlotId) (b : Bool)
    (hold : 0 < s.rest.2.2.1.hold) (ok : Port.timed s.port) :
    Port.timed (s.examine i b).port := by
  simp only [State.examine]
  simp -implicitDefEqProofs (maxDischargeDepth := 20) [Port.timed, ok, hold]
@[simp] theorem port_timed_nackUp {s : State} (b : Bool) (hold : 0 < s.rest.2.2.1.hold) (ok : Port.timed s.port) :
    Port.timed (s.nackUp b).port := by
  simp only [State.nackUp]
  simp -implicitDefEqProofs (maxDischargeDepth := 20) [Port.timed, Port.idle, ok, hold]
@[simp] theorem port_timed_breakUp {s : State} (hold : 0 < s.rest.2.2.1.hold) (ok : Port.timed s.port) :
    Port.timed (s.breakUp).port := by
  simp only [State.breakUp]
  (repeat' split) <;> simp -implicitDefEqProofs (maxDischargeDepth := 20) [Port.timed, Port.idle, ok, hold]
@[simp] theorem port_timed_dropCompound {s : State} (t : Txn) (hold : 0 < s.rest.2.2.1.hold) (ok : Port.timed s.port) :
    Port.timed (s.dropCompound t).port := by
  simp only [State.dropCompound]
  (repeat' split) <;> simp -implicitDefEqProofs (maxDischargeDepth := 20) [Port.timed, ok, hold]
@[simp] theorem port_timed_dropTxn {s : State} (t : Txn) (hold : 0 < s.rest.2.2.1.hold) (ok : Port.timed s.port) :
    Port.timed (s.dropTxn t).port := ok
@[simp] theorem port_timed_withdraw {s : State} (t : Txn) (hold : 0 < s.rest.2.2.1.hold) (ok : Port.timed s.port) :
    Port.timed (s.withdraw t).port := by
  simp only [State.withdraw]
  simp -implicitDefEqProofs (maxDischargeDepth := 20) [Port.timed, ok, hold]
@[simp] theorem port_timed_abortWaiting {s : State} (p : Txn → Bool)
    (hold : 0 < s.rest.2.2.1.hold) (ok : Port.timed s.port) :
    Port.timed (s.abortWaiting p).port := by
  simp only [State.abortWaiting]
  (repeat' split) <;> simp -implicitDefEqProofs (maxDischargeDepth := 20) [Port.timed, ok, hold]
@[simp] theorem port_timed_placeClaim {s : State} (w : Wait) (hold : 0 < s.rest.2.2.1.hold) (ok : Port.timed s.port) :
    Port.timed (s.placeClaim w).port := by
  simp only [State.placeClaim]
  (repeat' split) <;> simp -implicitDefEqProofs (maxDischargeDepth := 20) [Port.timed, ok, hold]
@[simp] theorem port_timed_dropDeferred {s : State} (w : Wait) (hold : 0 < s.rest.2.2.1.hold) (ok : Port.timed s.port) :
    Port.timed (s.dropDeferred w).port := by
  simp only [State.dropDeferred]
  (repeat' split) <;> simp -implicitDefEqProofs (maxDischargeDepth := 20) [Port.timed, ok, hold]
@[simp] theorem port_timed_recheckDeferred {s : State} (hold : 0 < s.rest.2.2.1.hold) (ok : Port.timed s.port) :
    Port.timed (s.recheckDeferred).port := by
  simp only [State.recheckDeferred]
  (repeat' split) <;> simp -implicitDefEqProofs (maxDischargeDepth := 20) [Port.timed, ok, hold]
@[simp] theorem port_timed_quarantine {s : State} (i : SlotId) (hold : 0 < s.rest.2.2.1.hold) (ok : Port.timed s.port) :
    Port.timed (s.quarantine i).port := by
  simp only [State.quarantine]
  simp -implicitDefEqProofs (maxDischargeDepth := 20) [Port.timed, ok, hold]
@[simp] theorem port_timed_countFault {s : State} (i : SlotId) (hold : 0 < s.rest.2.2.1.hold) (ok : Port.timed s.port) :
    Port.timed (s.countFault i).port := by
  simp only [State.countFault]
  (repeat' split) <;> simp -implicitDefEqProofs (maxDischargeDepth := 20) [Port.timed, ok, hold]
@[simp] theorem port_timed_count {s : State} (i : SlotId) (g : Seg) (k : OutcomeKind)
    (hold : 0 < s.rest.2.2.1.hold) (ok : Port.timed s.port) :
    Port.timed (s.count i g k).port := by
  simp only [State.count]
  (repeat' split) <;> simp -implicitDefEqProofs (maxDischargeDepth := 20) [Port.timed, ok, hold]
@[simp] theorem port_timed_report {s : State} (i : SlotId) (g : Seg) (k : OutcomeKind) (b : Bool)
    (hold : 0 < s.rest.2.2.1.hold) (ok : Port.timed s.port) :
    Port.timed (s.report i g k b).port := by
  simp only [State.report]
  simp -implicitDefEqProofs (maxDischargeDepth := 20) [Port.timed, ok, hold]
@[simp] theorem port_timed_reportTxn {s : State} (k : OutcomeKind) (hold : 0 < s.rest.2.2.1.hold) (ok : Port.timed s.port) :
    Port.timed (s.reportTxn k).port := by
  simp only [State.reportTxn]
  (repeat' split) <;> simp -implicitDefEqProofs (maxDischargeDepth := 20) [Port.timed, ok, hold]
@[simp] theorem port_timed_endTxn {s : State} (k : OutcomeKind) (hold : 0 < s.rest.2.2.1.hold) (ok : Port.timed s.port) :
    Port.timed (s.endTxn k).port := by
  simp only [State.endTxn]
  simp -implicitDefEqProofs (maxDischargeDepth := 20) [Port.timed, ok, hold]
@[simp] theorem port_timed_endDelivery {s : State} (g : Seg) (f : FrameId) (k : OutcomeKind) (b : Bool)
    (hold : 0 < s.rest.2.2.1.hold) (ok : Port.timed s.port) :
    Port.timed (s.endDelivery g f k b).port := by
  simp only [State.endDelivery]
  (repeat' split) <;> simp -implicitDefEqProofs (maxDischargeDepth := 20) [Port.timed, ok, hold]
@[simp] theorem port_timed_endUpstream {s : State} (f : Txn → Txn) (hold : 0 < s.rest.2.2.1.hold) (ok : Port.timed s.port) :
    Port.timed (s.endUpstream f).port := by
  unfold State.endUpstream
  split <;> exact ok
@[simp] theorem port_timed_lostFrames {s : State} (i : SlotId) (hold : 0 < s.rest.2.2.1.hold) (ok : Port.timed s.port) :
    Port.timed (s.lostFrames i).port := by
  simp only [State.lostFrames]
  (repeat' split) <;> simp -implicitDefEqProofs (maxDischargeDepth := 20) [Port.timed, ok, hold]
@[simp] theorem port_timed_purgeSegment {s : State} (g : Seg) (hold : 0 < s.rest.2.2.1.hold) (ok : Port.timed s.port) :
    Port.timed (s.purgeSegment g).port := by
  unfold State.purgeSegment
  refine port_timed_foldl (fun u => 0 < u.rest.2.2.1.hold) _ (fun _ _ h => by simpa using h)
    (fun _ i h k => port_timed_lostFrames i h k) _ _ ?_ ?_ <;>
    simp -implicitDefEqProofs (maxDischargeDepth := 20) [Port.timed, ok, hold]
@[simp] theorem port_timed_orphanFill {s : State} (g : Seg) (hold : 0 < s.rest.2.2.1.hold) (ok : Port.timed s.port) :
    Port.timed (s.orphanFill g).port := by
  simp only [State.orphanFill]
  (repeat' split) <;> simp -implicitDefEqProofs (maxDischargeDepth := 20) [Port.timed, ok, hold]
@[simp] theorem port_timed_abortDiscovery {s : State} (g : Seg) (hold : 0 < s.rest.2.2.1.hold) (ok : Port.timed s.port) :
    Port.timed (s.abortDiscovery g).port := by
  unfold State.abortDiscovery
  split <;> exact ok
@[simp] theorem port_timed_leaveService {s : State} (g : Seg) (x : SegState)
    (hold : 0 < s.rest.2.2.1.hold) (ok : Port.timed s.port) :
    Port.timed (s.leaveService g x).port := by
  simp only [State.leaveService]
  simp -implicitDefEqProofs (maxDischargeDepth := 20) [Port.timed, ok, hold]
@[simp] theorem port_timed_install {s : State} (g : Seg) (c : SegConfig)
    (hold : 0 < s.rest.2.2.1.hold) (ok : Port.timed s.port) :
    Port.timed (s.install g c).port := by
  simp only [State.install]
  (repeat' split) <;> simp -implicitDefEqProofs (maxDischargeDepth := 20) [Port.timed, ok, hold]
@[simp] theorem port_timed_installNext {s : State} (g : Seg) (hold : 0 < s.rest.2.2.1.hold) (ok : Port.timed s.port) :
    Port.timed (s.installNext g).port := by
  simp only [State.installNext]
  (repeat' split) <;> simp -implicitDefEqProofs (maxDischargeDepth := 20) [Port.timed, ok, hold]
@[simp] theorem port_timed_freeLines {s : State} (g : Seg) (hold : 0 < s.rest.2.2.1.hold) (ok : Port.timed s.port) :
    Port.timed (s.freeLines g).port := ok
@[simp] theorem port_timed_enterIdle {s : State} (g : Seg) (hold : 0 < s.rest.2.2.1.hold) (ok : Port.timed s.port) :
    Port.timed (s.enterIdle g).port := by
  simp only [State.enterIdle]
  simp -implicitDefEqProofs (maxDischargeDepth := 20) [Port.timed, ok, hold]
@[simp] theorem port_timed_beginRecovery {s : State} (g : Seg) (hold : 0 < s.rest.2.2.1.hold) (ok : Port.timed s.port) :
    Port.timed (s.beginRecovery g).port := ok
@[simp] theorem port_timed_withdrawAt {s : State} (g : Seg) (hold : 0 < s.rest.2.2.1.hold) (ok : Port.timed s.port) :
    Port.timed (s.withdrawAt g).port := by
  simp only [State.withdrawAt]
  simp -implicitDefEqProofs (maxDischargeDepth := 20) [Port.timed, ok, hold]
@[simp] theorem port_timed_failRecovery {s : State} (g : Seg) (hold : 0 < s.rest.2.2.1.hold) (ok : Port.timed s.port) :
    Port.timed (s.failRecovery g).port := by
  simp only [State.failRecovery]
  simp -implicitDefEqProofs (maxDischargeDepth := 20) [Port.timed, ok, hold]
@[simp] theorem port_timed_succeedRecovery {s : State} (g : Seg) (hold : 0 < s.rest.2.2.1.hold) (ok : Port.timed s.port) :
    Port.timed (s.succeedRecovery g).port := ok
@[simp] theorem port_timed_identifyResult {s : State} (g : Seg) (a : Option Bool) (b : Option Byte)
    (hold : 0 < s.rest.2.2.1.hold) (ok : Port.timed s.port) :
    Port.timed (s.identifyResult g a b).port := by
  simp only [State.identifyResult]
  (repeat' split) <;> simp -implicitDefEqProofs (maxDischargeDepth := 20) [Port.timed, ok, hold]
@[simp] theorem port_timed_endIdentify {s : State} (g : Seg) (a : Option Bool) (b : Option Byte)
    (hold : 0 < s.rest.2.2.1.hold) (ok : Port.timed s.port) :
    Port.timed (s.endIdentify g a b).port := by
  simp only [State.endIdentify]
  (repeat' split) <;> simp -implicitDefEqProofs (maxDischargeDepth := 20) [Port.timed, ok, hold]
@[simp] theorem port_timed_reviveSlot {s : State} (g : Seg) (i : SlotId)
    (hold : 0 < s.rest.2.2.1.hold) (ok : Port.timed s.port) :
    Port.timed (State.reviveSlot g s i).port := by
  simp only [State.reviveSlot]
  (repeat' split) <;> simp -implicitDefEqProofs (maxDischargeDepth := 20) [Port.timed, ok, hold]
@[simp] theorem port_timed_completeDiscovery {s : State} (g : Seg) (hold : 0 < s.rest.2.2.1.hold) (ok : Port.timed s.port) :
    Port.timed (s.completeDiscovery g).port := by
  unfold State.completeDiscovery
  refine port_timed_foldl (fun u => 0 < u.rest.2.2.1.hold) (State.reviveSlot g) (fun u i h => ?_)
    (fun _ i h k => port_timed_reviveSlot g i h k) _ _ ?_ ?_
  · rw [rest_reviveSlot]
    exact h
  · rw [rest_raiseSeg, rest_setSeg]
    exact hold
  · exact port_timed_raiseSeg _ _ hold ok
@[simp] theorem port_timed_advanceCursor {s : State} (g : Seg) (hold : 0 < s.rest.2.2.1.hold) (ok : Port.timed s.port) :
    Port.timed (s.advanceCursor g).port := by
  simp only [State.advanceCursor]
  (repeat' split) <;> simp -implicitDefEqProofs (maxDischargeDepth := 20) [Port.timed, ok, hold]
@[simp] theorem port_timed_dropDown {s : State} (g : Seg) (hold : 0 < s.rest.2.2.1.hold) (ok : Port.timed s.port) :
    Port.timed (s.dropDown g).port := ok
@[simp] theorem port_timed_finishWork {s : State} (g : Seg) (d : Down)
    (hold : 0 < s.rest.2.2.1.hold) (ok : Port.timed s.port) :
    Port.timed (s.finishWork g d).port := by
  simp only [State.finishWork]
  (repeat' split) <;> simp -implicitDefEqProofs (maxDischargeDepth := 20) [Port.timed, ok, hold]
@[simp] theorem port_timed_beginStretch {s : State} (hold : 0 < s.rest.2.2.1.hold) (ok : Port.timed s.port) :
    Port.timed (s.beginStretch).port := (portTimed_stretch _ _).mpr hold
@[simp] theorem port_timed_endStretch {s : State} (a : UpOut) (hold : 0 < s.rest.2.2.1.hold) (ok : Port.timed s.port) :
    Port.timed (s.endStretch a).port := by
  simp only [State.endStretch]
  simp -implicitDefEqProofs (maxDischargeDepth := 20) [Port.timed, Port.idle, Port.sclFalls, Port.lowTimerRuns, ok, hold]
@[simp] theorem port_timed_rejectFill {s : State} (i : SlotId) (f : SlotFlag)
    (hold : 0 < s.rest.2.2.1.hold) (ok : Port.timed s.port) :
    Port.timed (s.rejectFill i f).port := by
  simp only [State.rejectFill]
  simp -implicitDefEqProofs (maxDischargeDepth := 20) [Port.timed, ok, hold]
@[simp] theorem port_timed_queueFill {s : State} (p : Fill) (hold : 0 < s.rest.2.2.1.hold) (ok : Port.timed s.port) :
    Port.timed (s.queueFill p).port := by
  simp only [State.queueFill]
  simp -implicitDefEqProofs (maxDischargeDepth := 20) [Port.timed, ok, hold]
@[simp] theorem port_timed_closeFill {s : State} (hold : 0 < s.rest.2.2.1.hold) (ok : Port.timed s.port) :
    Port.timed (s.closeFill).port := by
  simp only [State.closeFill]
  (repeat' split) <;> simp -implicitDefEqProofs (maxDischargeDepth := 20) [Port.timed, ok, hold]
@[simp] theorem port_timed_endHeld {s : State} (hold : 0 < s.rest.2.2.1.hold) (ok : Port.timed s.port) :
    Port.timed (s.endHeld).port := by
  simp only [State.endHeld]
  (repeat' split) <;> simp -implicitDefEqProofs (maxDischargeDepth := 20) [Port.timed, ok, hold]
@[simp] theorem port_timed_withhold {s : State} (w : Wait) (hold : 0 < s.rest.2.2.1.hold) (ok : Port.timed s.port) :
    Port.timed (s.withhold w).port := by
  unfold State.withhold
  dsimp only
  split
  · exact (portTimed_stretch _ _).mpr hold
  · exact port_timed_placeClaim w hold ((portTimed_stretch _ _).mpr hold)
@[simp] theorem port_timed_decideRouted {s : State} (i : SlotId) (r : Bool) (x : Option (BitVec 2))
    (hold : 0 < s.rest.2.2.1.hold) (ok : Port.timed s.port) :
    Port.timed (s.decideRouted i r x).port := by
  simp only [State.decideRouted]
  (repeat' split) <;> simp -implicitDefEqProofs (maxDischargeDepth := 20) [Port.timed, Port.idle, Port.sclFalls, Port.lowTimerRuns, ok, hold]
@[simp] theorem port_timed_continueHeld {s : State} (i : SlotId) (r : Bool) (x : Option (BitVec 2))
    (hold : 0 < s.rest.2.2.1.hold) (ok : Port.timed s.port) :
    Port.timed (s.continueHeld i r x).port := by
  unfold State.continueHeld
  (repeat' split)
  · simp -implicitDefEqProofs (maxDischargeDepth := 20) [Port.timed, ok, hold]
  · simp -implicitDefEqProofs (maxDischargeDepth := 20) [Port.timed, ok, hold]
  · exact (portTimed_stretch _ _).mpr hold
@[simp] theorem port_timed_compoundRead {s : State} (i : SlotId) (hold : 0 < s.rest.2.2.1.hold) (ok : Port.timed s.port) :
    Port.timed (s.compoundRead i).port := by
  simp only [State.compoundRead]
  (repeat' split) <;> simp -implicitDefEqProofs (maxDischargeDepth := 20) [Port.timed, ok, hold]
@[simp] theorem port_timed_settleSame {s : State} (h : Held) (r : Bool) (x : Option (BitVec 2))
    (hold : 0 < s.rest.2.2.1.hold) (ok : Port.timed s.port) :
    Port.timed (s.settleSame h r x).port := by
  simp only [State.settleSame]
  (repeat' split) <;> simp -implicitDefEqProofs (maxDischargeDepth := 20) [Port.timed, ok, hold]
@[simp] theorem port_timed_decideSlot {s : State} (i : SlotId) (r : Bool) (x : Option (BitVec 2))
    (hold : 0 < s.rest.2.2.1.hold) (ok : Port.timed s.port) :
    Port.timed (s.decideSlot i r x).port := by
  simp only [State.decideSlot]
  (repeat' split) <;> simp -implicitDefEqProofs (maxDischargeDepth := 20) [Port.timed, ok, hold]
@[simp] theorem port_timed_refuseAddress {s : State} (b : Bool) (hold : 0 < s.rest.2.2.1.hold) (ok : Port.timed s.port) :
    Port.timed (s.refuseAddress b).port := by
  simp only [State.refuseAddress]
  simp -implicitDefEqProofs (maxDischargeDepth := 20) [Port.timed, ok, hold]
@[simp] theorem port_timed_acceptMgmt {s : State} (r : Bool) (hold : 0 < s.rest.2.2.1.hold) (ok : Port.timed s.port) :
    Port.timed (s.acceptMgmt r).port := by
  simp only [State.acceptMgmt]
  (repeat' split) <;> simp -implicitDefEqProofs (maxDischargeDepth := 20) [Port.timed, Port.idle, Port.sclFalls, Port.lowTimerRuns, ok, hold]
@[simp] theorem port_timed_clearTen {s : State} (hold : 0 < s.rest.2.2.1.hold) (ok : Port.timed s.port) :
    Port.timed (s.clearTen).port := ok
@[simp] theorem port_timed_clearTenUnless {s : State} (x : BitVec 2)
    (hold : 0 < s.rest.2.2.1.hold) (ok : Port.timed s.port) :
    Port.timed (s.clearTenUnless x).port := by
  unfold State.clearTenUnless
  split <;> exact ok
@[simp] theorem port_timed_decideTenFirst {s : State} (x : BitVec 2)
    (hold : 0 < s.rest.2.2.1.hold) (ok : Port.timed s.port) :
    Port.timed (s.decideTenFirst x).port := by
  simp only [State.decideTenFirst]
  (repeat' split) <;> simp -implicitDefEqProofs (maxDischargeDepth := 20) [Port.timed, Port.idle, Port.sclFalls, Port.lowTimerRuns, ok, hold]
@[simp] theorem port_timed_decideTenSecond {s : State} (b : Byte) (hold : 0 < s.rest.2.2.1.hold) (ok : Port.timed s.port) :
    Port.timed (s.decideTenSecond b).port := by
  simp only [State.decideTenSecond]
  (repeat' split) <;> simp -implicitDefEqProofs (maxDischargeDepth := 20) [Port.timed, Port.idle, ok, hold]
@[simp] theorem port_timed_decideTenRead {s : State} (x : BitVec 2) (hold : 0 < s.rest.2.2.1.hold) (ok : Port.timed s.port) :
    Port.timed (s.decideTenRead x).port := by
  simp only [State.decideTenRead]
  (repeat' split) <;> simp -implicitDefEqProofs (maxDischargeDepth := 20) [Port.timed, ok, hold]
@[simp] theorem port_timed_decideAddress {s : State} (a : Addr7) (r : Bool)
    (hold : 0 < s.rest.2.2.1.hold) (ok : Port.timed s.port) :
    Port.timed (s.decideAddress a r).port := by
  simp only [State.decideAddress]
  (repeat' split) <;> simp -implicitDefEqProofs (maxDischargeDepth := 20) [Port.timed, ok, hold]
@[simp] theorem port_timed_abandonPhase {s : State} (hold : 0 < s.rest.2.2.1.hold) (ok : Port.timed s.port) :
    Port.timed (s.abandonPhase).port := by
  simp only [State.abandonPhase]
  (repeat' split) <;> simp -implicitDefEqProofs (maxDischargeDepth := 20) [Port.timed, ok, hold]
@[simp] theorem port_timed_toAddress {s : State} (h : Option Held) (x : Option TenMemory) (r : Bool)
    (hold : 0 < s.rest.2.2.1.hold) (ok : Port.timed s.port) :
    Port.timed (s.toAddress h x r).port := by
  simp only [State.toAddress]
  simp -implicitDefEqProofs (maxDischargeDepth := 20) [Port.timed, Port.idle, Port.sclFalls, Port.lowTimerRuns, ok, hold]
@[simp] theorem port_timed_pauseTxn {s : State} (hold : 0 < s.rest.2.2.1.hold) (ok : Port.timed s.port) :
    Port.timed (s.pauseTxn).port := by
  unfold State.pauseTxn
  split <;> exact ok
@[simp] theorem port_timed_applyCreate {s : State} (i : SlotId) (r : RouteRecord) (h : Bool)
    (hold : 0 < s.rest.2.2.1.hold) (ok : Port.timed s.port) :
    Port.timed (s.applyCreate i r h).port := ok
@[simp] theorem port_timed_placePending {s : State} (i : SlotId) (p : Pending)
    (hold : 0 < s.rest.2.2.1.hold) (ok : Port.timed s.port) :
    Port.timed (s.placePending i p).port := ok
@[simp] theorem port_timed_applyEntry {s : State} (e : Entry) (hold : 0 < s.rest.2.2.1.hold) (ok : Port.timed s.port) :
    Port.timed (s.applyEntry e).port := by
  simp only [State.applyEntry]
  (repeat' split) <;> simp -implicitDefEqProofs (maxDischargeDepth := 20) [Port.timed, ok, hold]
@[simp] theorem port_timed_clearTail {s : State} (g : Seg) (hold : 0 < s.rest.2.2.1.hold) (ok : Port.timed s.port) :
    Port.timed (s.clearTail g).port := by
  simp only [State.clearTail]
  (repeat' split) <;> simp -implicitDefEqProofs (maxDischargeDepth := 20) [Port.timed, ok, hold]
@[simp] theorem port_timed_holdPhase {s : State} (k : HeldKind) (hold : 0 < s.rest.2.2.1.hold) (ok : Port.timed s.port) :
    Port.timed (s.holdPhase k).port := by
  simp only [State.holdPhase]
  simp -implicitDefEqProofs (maxDischargeDepth := 20) [Port.timed, ok, hold]
@[simp] theorem port_timed_takeMgmtByte {s : State} (b : Byte) (hold : 0 < s.rest.2.2.1.hold) (ok : Port.timed s.port) :
    Port.timed (s.takeMgmtByte b).port := by
  unfold State.takeMgmtByte
  split <;> exact portTimed_sclFalls _ ok.2.2
@[simp] theorem port_timed_sendMgmtByte {s : State} (b : Bool) (hold : 0 < s.rest.2.2.1.hold) (ok : Port.timed s.port) :
    Port.timed (s.sendMgmtByte b).port := by
  unfold State.sendMgmtByte
  (repeat' split) <;> exact portTimed_sclFalls _ ok.2.2
@[simp] theorem port_timed_answer {s : State} (a : UpOut) (hold : 0 < s.rest.2.2.1.hold) (ok : Port.timed s.port) :
    Port.timed (s.answer a).port := portTimed_sclFalls _ ok.2.2
@[simp] theorem port_timed_takeFillByte {s : State} (b : Byte) (hold : 0 < s.rest.2.2.1.hold) (ok : Port.timed s.port) :
    Port.timed (s.takeFillByte b).port := by
  simp only [State.takeFillByte]
  (repeat' split) <;> simp -implicitDefEqProofs (maxDischargeDepth := 20) [Port.timed, ok, hold]
@[simp] theorem port_timed_takeCtByte {s : State} (b : Byte) (hold : 0 < s.rest.2.2.1.hold) (ok : Port.timed s.port) :
    Port.timed (s.takeCtByte b).port := by
  simp only [State.takeCtByte]
  (repeat' split) <;> simp -implicitDefEqProofs (maxDischargeDepth := 20) [Port.timed, ok, hold]
@[simp] theorem port_timed_nextReadByte {s : State} (g : Seg) (hold : 0 < s.rest.2.2.1.hold) (ok : Port.timed s.port) :
    Port.timed (s.nextReadByte g).port := by
  simp only [State.nextReadByte]
  simp -implicitDefEqProofs (maxDischargeDepth := 20) [Port.timed, ok, hold]
@[simp] theorem port_timed_byteClocked {s : State} (hold : 0 < s.rest.2.2.1.hold) (ok : Port.timed s.port) :
    Port.timed (s.byteClocked).port := ok
@[simp] theorem port_timed_takeReadAck {s : State} (b : Bool) (hold : 0 < s.rest.2.2.1.hold) (ok : Port.timed s.port) :
    Port.timed (s.takeReadAck b).port := by
  simp only [State.takeReadAck]
  (repeat' split) <;> simp -implicitDefEqProofs (maxDischargeDepth := 20) [Port.timed, ok, hold]
@[simp] theorem port_timed_expireHold {s : State} (hold : 0 < s.rest.2.2.1.hold) (ok : Port.timed s.port) :
    Port.timed (s.expireHold).port := by
  simp only [State.expireHold]
  (repeat' split) <;> simp -implicitDefEqProofs (maxDischargeDepth := 20) [Port.timed, ok, hold]
@[simp] theorem port_timed_ackUp {s : State} (i : SlotId) (r : Bool)
    (hold : 0 < s.rest.2.2.1.hold) (ok : Port.timed s.port) :
    Port.timed (s.ackUp i r).port := by
  simp only [State.ackUp]
  (repeat' split) <;> simp -implicitDefEqProofs (maxDischargeDepth := 20) [Port.timed, Port.idle, Port.sclFalls, Port.lowTimerRuns, ok, hold]
@[simp] theorem port_timed_routedAddressAnswer {s : State} (g : Seg) (d : Down) (t : Txn) (a : Bool)
    (hold : 0 < s.rest.2.2.1.hold) (ok : Port.timed s.port) :
    Port.timed (s.routedAddressAnswer g d t a).port := by
  simp only [State.routedAddressAnswer]
  (repeat' split) <;> simp -implicitDefEqProofs (maxDischargeDepth := 20) [Port.timed, ok, hold]
@[simp] theorem port_timed_takeAddressAnswer {s : State} (g : Seg) (a : Bool)
    (hold : 0 < s.rest.2.2.1.hold) (ok : Port.timed s.port) :
    Port.timed (s.takeAddressAnswer g a).port := by
  simp only [State.takeAddressAnswer]
  (repeat' split) <;> simp -implicitDefEqProofs (maxDischargeDepth := 20) [Port.timed, ok, hold]
@[simp] theorem port_timed_takeCtAnswer {s : State} (g : Seg) (a : Bool)
    (hold : 0 < s.rest.2.2.1.hold) (ok : Port.timed s.port) :
    Port.timed (s.takeCtAnswer g a).port := by
  simp only [State.takeCtAnswer]
  (repeat' split) <;> simp -implicitDefEqProofs (maxDischargeDepth := 20) [Port.timed, ok, hold]
@[simp] theorem port_timed_takeReadByte {s : State} (g : Seg) (b : Byte)
    (hold : 0 < s.rest.2.2.1.hold) (ok : Port.timed s.port) :
    Port.timed (s.takeReadByte g b).port := by
  simp only [State.takeReadByte]
  (repeat' split) <;> simp -implicitDefEqProofs (maxDischargeDepth := 20) [Port.timed, ok, hold]
@[simp] theorem port_timed_loseCompound {s : State} (t : Txn) (hold : 0 < s.rest.2.2.1.hold) (ok : Port.timed s.port) :
    Port.timed (s.loseCompound t).port := by
  simp only [State.loseCompound]
  simp -implicitDefEqProofs (maxDischargeDepth := 20) [Port.timed, ok, hold]
@[simp] theorem port_timed_returnCompound {s : State} (t : Txn) (hold : 0 < s.rest.2.2.1.hold) (ok : Port.timed s.port) :
    Port.timed (s.returnCompound t).port := by
  simp only [State.returnCompound]
  (repeat' split) <;> simp -implicitDefEqProofs (maxDischargeDepth := 20) [Port.timed, ok, hold]
@[simp] theorem port_timed_frameOutAnswer {s : State} (g : Seg) (d : Down) (t : Txn) (a : Bool)
    (hold : 0 < s.rest.2.2.1.hold) (ok : Port.timed s.port) :
    Port.timed (s.frameOutAnswer g d t a).port := by
  simp only [State.frameOutAnswer]
  (repeat' split) <;> simp -implicitDefEqProofs (maxDischargeDepth := 20) [Port.timed, ok, hold]
@[simp] theorem port_timed_takeFrameOutAnswer {s : State} (g : Seg) (a : Bool)
    (hold : 0 < s.rest.2.2.1.hold) (ok : Port.timed s.port) :
    Port.timed (s.takeFrameOutAnswer g a).port := by
  simp only [State.takeFrameOutAnswer]
  (repeat' split) <;> simp -implicitDefEqProofs (maxDischargeDepth := 20) [Port.timed, ok, hold]
@[simp] theorem port_timed_takeDeliveryAddress {s : State} (g : Seg) (a : Bool)
    (hold : 0 < s.rest.2.2.1.hold) (ok : Port.timed s.port) :
    Port.timed (s.takeDeliveryAddress g a).port := by
  simp only [State.takeDeliveryAddress]
  (repeat' split) <;> simp -implicitDefEqProofs (maxDischargeDepth := 20) [Port.timed, ok, hold]
@[simp] theorem port_timed_takeDeliveryByte {s : State} (g : Seg) (a : Bool)
    (hold : 0 < s.rest.2.2.1.hold) (ok : Port.timed s.port) :
    Port.timed (s.takeDeliveryByte g a).port := by
  simp only [State.takeDeliveryByte]
  (repeat' split) <;> simp -implicitDefEqProofs (maxDischargeDepth := 20) [Port.timed, ok, hold]
@[simp] theorem port_timed_takeProbeAnswer {s : State} (g : Seg) (a : Bool)
    (hold : 0 < s.rest.2.2.1.hold) (ok : Port.timed s.port) :
    Port.timed (s.takeProbeAnswer g a).port := by
  simp only [State.takeProbeAnswer]
  (repeat' split) <;> simp -implicitDefEqProofs (maxDischargeDepth := 20) [Port.timed, ok, hold]
@[simp] theorem port_timed_takeIdentifyAddress {s : State} (g : Seg) (a : Bool)
    (hold : 0 < s.rest.2.2.1.hold) (ok : Port.timed s.port) :
    Port.timed (s.takeIdentifyAddress g a).port := by
  simp only [State.takeIdentifyAddress]
  (repeat' split) <;> simp -implicitDefEqProofs (maxDischargeDepth := 20) [Port.timed, ok, hold]
@[simp] theorem port_timed_takeIdentifyByte {s : State} (g : Seg) (b : Byte)
    (hold : 0 < s.rest.2.2.1.hold) (ok : Port.timed s.port) :
    Port.timed (s.takeIdentifyByte g b).port := by
  simp only [State.takeIdentifyByte]
  (repeat' split) <;> simp -implicitDefEqProofs (maxDischargeDepth := 20) [Port.timed, ok, hold]
@[simp] theorem port_timed_stopOwned {s : State} (g : Seg) (d : Down)
    (hold : 0 < s.rest.2.2.1.hold) (ok : Port.timed s.port) :
    Port.timed (s.stopOwned g d).port := by
  simp only [State.stopOwned]
  (repeat' split) <;> simp -implicitDefEqProofs (maxDischargeDepth := 20) [Port.timed, ok, hold]
@[simp] theorem port_timed_takeStopComplete {s : State} (g : Seg) (hold : 0 < s.rest.2.2.1.hold) (ok : Port.timed s.port) :
    Port.timed (s.takeStopComplete g).port := by
  simp only [State.takeStopComplete]
  (repeat' split) <;> simp -implicitDefEqProofs (maxDischargeDepth := 20) [Port.timed, ok, hold]
@[simp] theorem port_timed_endUnder {s : State} (t : Txn) (hold : 0 < s.rest.2.2.1.hold) (ok : Port.timed s.port) :
    Port.timed (s.endUnder t).port := by
  simp only [State.endUnder]
  (repeat' split) <;> simp -implicitDefEqProofs (maxDischargeDepth := 20) [Port.timed, ok, hold]
@[simp] theorem port_timed_failRouted {s : State} (k : OutcomeKind) (hold : 0 < s.rest.2.2.1.hold) (ok : Port.timed s.port) :
    Port.timed (s.failRouted k).port := by
  simp only [State.failRouted]
  (repeat' split) <;> simp -implicitDefEqProofs (maxDischargeDepth := 20) [Port.timed, ok, hold]
@[simp] theorem port_timed_retryRouted {s : State} (g : Seg) (hold : 0 < s.rest.2.2.1.hold) (ok : Port.timed s.port) :
    Port.timed (s.retryRouted g).port := ok
@[simp] theorem port_timed_routedLoss {s : State} (g : Seg) (d : Down)
    (hold : 0 < s.rest.2.2.1.hold) (ok : Port.timed s.port) :
    Port.timed (s.routedLoss g d).port := by
  simp only [State.routedLoss]
  (repeat' split) <;> simp -implicitDefEqProofs (maxDischargeDepth := 20) [Port.timed, ok, hold]
@[simp] theorem port_timed_deliveryLoss {s : State} (g : Seg) (d : Down) (f : FrameId) (k : Option OutcomeKind)
    (hold : 0 < s.rest.2.2.1.hold) (ok : Port.timed s.port) :
    Port.timed (s.deliveryLoss g d f k).port := by
  simp only [State.deliveryLoss]
  (repeat' split) <;> simp -implicitDefEqProofs (maxDischargeDepth := 20) [Port.timed, ok, hold]
@[simp] theorem port_timed_takeArbitrationLoss {s : State} (g : Seg)
    (hold : 0 < s.rest.2.2.1.hold) (ok : Port.timed s.port) :
    Port.timed (s.takeArbitrationLoss g).port := by
  simp only [State.takeArbitrationLoss]
  (repeat' split) <;> simp -implicitDefEqProofs (maxDischargeDepth := 20) [Port.timed, ok, hold]
@[simp] theorem port_timed_timeoutWork {s : State} (g : Seg) (d : Down)
    (hold : 0 < s.rest.2.2.1.hold) (ok : Port.timed s.port) :
    Port.timed (s.timeoutWork g d).port := by
  simp only [State.timeoutWork]
  (repeat' split) <;> simp -implicitDefEqProofs (maxDischargeDepth := 20) [Port.timed, ok, hold]
@[simp] theorem port_timed_takeLowTimeout {s : State} (g : Seg) (hold : 0 < s.rest.2.2.1.hold) (ok : Port.timed s.port) :
    Port.timed (s.takeLowTimeout g).port := by
  simp only [State.takeLowTimeout]
  (repeat' split) <;> simp -implicitDefEqProofs (maxDischargeDepth := 20) [Port.timed, ok, hold]
@[simp] theorem port_timed_takePulse {s : State} (g : Seg) (a b : Bool)
    (hold : 0 < s.rest.2.2.1.hold) (ok : Port.timed s.port) :
    Port.timed (s.takePulse g a b).port := by
  simp only [State.takePulse]
  (repeat' split) <;> simp -implicitDefEqProofs (maxDischargeDepth := 20) [Port.timed, ok, hold]
@[simp] theorem port_timed_takeFree {s : State} (g : Seg) (hold : 0 < s.rest.2.2.1.hold) (ok : Port.timed s.port) :
    Port.timed (s.takeFree g).port := by
  simp only [State.takeFree]
  (repeat' split) <;> simp -implicitDefEqProofs (maxDischargeDepth := 20) [Port.timed, ok, hold]
@[simp] theorem port_timed_takeExternalStart {s : State} (g : Seg) (hold : 0 < s.rest.2.2.1.hold) (ok : Port.timed s.port) :
    Port.timed (s.takeExternalStart g).port := by
  unfold State.takeExternalStart
  split <;> exact ok
@[simp] theorem port_timed_takeAlertFall {s : State} (g : Seg) (hold : 0 < s.rest.2.2.1.hold) (ok : Port.timed s.port) :
    Port.timed (s.takeAlertFall g).port := by
  simp only [State.takeAlertFall]
  (repeat' split) <;> simp -implicitDefEqProofs (maxDischargeDepth := 20) [Port.timed, ok, hold]
@[simp] theorem port_timed_takeAlertRise {s : State} (g : Seg) (hold : 0 < s.rest.2.2.1.hold) (ok : Port.timed s.port) :
    Port.timed (s.takeAlertRise g).port := ok

end Sys2Proof.Machine
end

