-- ==== Sys2Proof/Tests/Slice0.lean ====
section
/-! SUPPORT. The package's own tests: ill-formed commands, worked values of the manual, small runs, and for every
statement a state and operands that meet its hypotheses. -/

namespace Sys2Proof.Tests

set_option maxRecDepth 100000
set_option Elab.async false

open Sys2Proof.Machine Sys2Proof.Safety

/-! ### Well-formedness: each check refuses an ill-formed term -/

theorem test_stage_create_short : (Instr.editStage 1 none 1 0 1 [0x10, 0, 0x20]).wellFormed = false := by decide
theorem test_stage_create_long : (Instr.editStage 1 none 1 0 1 [0x10, 0, 0x20, 0, 0x40, 3, 2,
    0]).wellFormed = false := by
  decide
theorem test_stage_modify_short : (Instr.editStage 1 none 1 0 2 [0]).wellFormed = false := by decide
theorem test_stage_retire_long : (Instr.editStage 1 none 1 0 3 [0, 0]).wellFormed = false := by decide
theorem test_stage_retire_empty : (Instr.editStage 1 none 1 0 3 []).wellFormed = false := by decide
theorem test_stage_unknown_action : (Instr.editStage 1 none 1 0 9 [1, 2]).wellFormed = false
    ∧ (Instr.editStage 1 none 1 0 9 [1]).wellFormed = true := by decide

/-! ### The interface -/

/-- No row of the table gives bits, so no word spells a command and none is put in the queue. -/
theorem test_no_word : decodeTableWord 8 0x10 = none ∧ State.reset.withFetchWord 8 0x10 = State.reset := by
  decide +kernel

theorem test_step_runs_front :
    core.step { State.reset with pending := [.deviceReset, .stop] } =
      exec .deviceReset { State.reset with pending := [.stop] } := rfl

theorem test_idle_step : core.step State.reset = .next State.reset := rfl

/-! ### Worked values of the manual -/

/-- DEVICE_IDENT with tag 01h and a check byte at 5Ch: B8 81 01 is covered by F7h. -/
theorem test_crc_worked : crc8 [0xB8, 0x81, 0x01] = 0xF7 := by decide +kernel
/-- R197: a TEN key 2A5h goes out as F4h and A5h, and a SEVEN key 5Ah as B4h. -/
theorem test_key_bytes : ({ form := .ten, addr := 0x2A5 } : Key).writeBytes = [0xF4, 0xA5]
    ∧ ({ form := .seven, addr := 0x5A } : Key).writeBytes = [0xB4] := by decide +kernel
/-- R196: the mask that masks REFUSED alone is 00002000h. -/
theorem test_mask_refused : (State.alertDrivenLow { State.reset with
      config := { hold := 25, idle := 20, checkRequired := false, mask := 0x00002001 } }
    = false) ∧ unmasked 0x00002000 4 (1 <<< SlotFlag.refused.bit) = false
    ∧ unmasked 0x00002000 4 (1 <<< SlotFlag.accessDenied.bit) = true := by decide +kernel

/-! ### Small runs -/

/-- The state that a run of commands leaves. -/
def after (s : State) (cs : List Instr) : State :=
  match runAll cs s with
  | .next t => t
  | .fault _ => s
  | .refused _ => s

/-- A route record on segment A or B. -/
def route (form : Form) (addr : Addr10) (seg : Seg) (target : Addr7) (mode : WriteMode) (maxLen faultLimit : Nat) :
    RouteRecord where
  key := { form := form, addr := addr }
  seg := seg
  target := target
  access := .readWrite
  mode := mode
  check := .off
  maxLen := maxLen
  faultLimit := faultLimit
  autoRevive := false

/-- A LIVE slot with a record. -/
def live (r : RouteRecord) : Slot := { state := .live, cur := some r, pend := none, faults := 0, completed := 0 }

/-- A segment in service and IDLE. -/
def inService : Segment :=
  { Segment.reset false with
    state := .idle, cfg := { enable := true, speed := .khz100, lowLimit := 30, retry := 1, alertAddr := 0 } }

/-- Segments A and B in service and IDLE, and six routes: 0 POSTED 20h; 1 POSTED with VERIFY_REGEN and auto-revive 21h;
2 cut-through with auto-revive 22h; 3 cut-through TEN 020h with fault limit 1; 4 POSTED TEN 120h; 5 READ_ONLY TEN 121h
on segment B. -/
def ready : State :=
  (((((({ State.reset with
          segs := ⟨inService, inService, Segment.reset false, Segment.reset false⟩
          tokenCounter := 1 }).setSlot
    0 (live (route .seven 0x20 .a 0x40 .posted 3 2))).setSlot
    1 (live { route .seven 0x21 .a 0x41 .posted 3 2 with check := .verifyRegen, autoRevive := true })).setSlot
    2 (live { route .seven 0x22 .a 0x42 .cutThrough 2 2 with autoRevive := true })).setSlot
    3 (live (route .ten 0x020 .a 0x43 .cutThrough 3 1))).setSlot
    4 (live (route .ten 0x120 .a 0x44 .posted 3 3))).setSlot
    5 (live { route .ten 0x121 .b 0x44 .cutThrough 3 3 with access := .readOnly })

/-- A run from `ready`. -/
def run (cs : List Instr) : State := after ready cs

theorem test_bring_up : (after State.reset [.segmentConfig 7 none 0 1 0 30 1 0]).resp =
    { status := .ok, tag := 7, data := [0, 0, 2] } := by decide +kernel
theorem test_bus_free : ((after State.reset [.segmentConfig 7 none 0 1 0 30 1 0,
    .busFreeTime .a]).seg .a).state = .idle := by
  decide +kernel
/-- The commands that bring the part up lead to `ready`. -/
theorem test_commit_leads_to_ready :
    let s := after State.reset [.segmentConfig 1 none 0 1 0 30 1 0, .segmentConfig 1 none 1 1 0 30 1 0, .busFreeTime .a,
      .busFreeTime .b, .editOpen 1 none, .editStage 1 none 1 0 1 [0x10, 0, 0x20, 0, 0x40, 3, 2],
      .editStage 1 none 1 1 1 [0x1A, 0, 0x21, 0, 0x41, 3, 2], .editStage 1 none 1 2 1 [0x02, 0, 0x22, 0, 0x42, 2, 2],
      .editStage 1 none 1 3 1 [0x80, 0, 0x20, 0, 0x43, 3, 1], .editStage 1 none 1 4 1 [0x90, 1, 0x20, 0, 0x44, 3, 3],
      .editStage 1 none 1 5 1 [0xA0, 1, 0x21, 1, 0x44, 3, 3], .editCommit 1 none 1]
    s = { ready with resp := { status := .ok, tag := 1, data := [6, 0] } } := by decide +kernel
theorem test_posted_write_delivered :
    let s := run [.start, .addressByte 0x20 false, .postedFillByte 7, .stop, .deliveryAddressAnswer .a true,
      .deliveryByteAnswer .a true, .segmentStopComplete .a]
    (s.slot 0).completed = 1 ∧ (s.seg .a).state = .idle ∧ (s.seg .a).queue = [] ∧ s.frame 0 = Frame.empty := by
  decide +kernel
theorem test_cut_through_nack_is_write_refused :
    let s := run [.start, .addressByte 0x22 false, .targetAddressAnswer .a true, .cutThroughDataByte 5,
      .cutThroughByteAnswer .a false, .stop, .segmentStopComplete .a]
    (s.slotOwner 2).flags = 0x0008 ∧ (s.slot 2).faults = 0 ∧ s.txn = none := by decide +kernel
theorem test_target_nack_quarantines_at_limit :
    let s := run [.start, .tenBitFirstByte 0, .tenBitSecondByte 0x20, .targetAddressAnswer .a false,
      .segmentStopComplete .a, .stop]
    (s.slot 3).state = .quarantined ∧ (s.slotOwner 3).flags = 0x1001 ∧ (s.slotOwner 3).stamp = 2 := by decide +kernel
theorem test_response_is_read_with_check :
    (run [.start, .addressByte 0x5C true]).port.send = [0x02, 0, 0, crc8 [0xB9, 0x02, 0, 0]] := by
  decide +kernel

/-! ### The hypotheses of the statements are met -/

theorem takes {s : State} {code tag : Byte} {args : List Byte}
    (h : (s.inReset, s.port.state, s.config.checkRequired) = (false, .idle, false)) : Takes s code tag none args := by
  simp only [Prod.mk.injEq] at h
  exact ⟨h.1, h.2.1, h.2.2⟩

theorem ready_takes (code tag : Byte) (args : List Byte) : Takes ready code tag none args := takes (by decide +kernel)

theorem ready_claims : ClaimsDistinct ready := by unfold ClaimsDistinct; decide +kernel
theorem ready_shapes : SlotShapes ready := by unfold SlotShapes; decide +kernel

theorem claims_of {s : State} (h : s.slots = ready.slots) : ClaimsDistinct s := by
  have := ready_claims
  unfold ClaimsDistinct State.slot at *
  rwa [h]
theorem shapes_of {s : State} (h : s.slots = ready.slots) : SlotShapes s := by
  have := ready_shapes
  unfold SlotShapes State.slot at *
  rwa [h]

/-- The records of the six routes are valid, the flags in range, the frames in one place. -/
theorem test_ready_meets_the_laws : StagingLaw ready ∧ RecordsValid ready ∧ FaultLaw ready ∧ FramePlaces ready
    ∧ FlagsInRange ready ∧ ConfigInRange ready.config ∧ SegConfigsInRange ready := by
  refine ⟨by unfold StagingLaw; decide +kernel, ?_, ?_, ?_, ⟨by decide +kernel, by decide +kernel,
      fun g => by cases g <;> decide +kernel⟩, by unfold ConfigInRange; decide +kernel, ?_⟩
  · refine ⟨?_, fun e h => ?_⟩
    · unfold RecordValid; decide +kernel
    · have : ready.staging = [] := by decide +kernel
      rw [this] at h; cases h
  · have h : ∀ i, (ready.slot i).cur.all (fun r => decide ((ready.slot i).faults ≤ r.faultLimit)
        && (decide ((ready.slot i).faults = r.faultLimit → (ready.slot i).state = .quarantined
          ∨ (ready.slot i).state = .draining ∨ (ready.slot i).pend.isSome))) = true := by decide +kernel
    intro i r e
    have := h i
    rw [e] at this
    simp only [Option.all_some, Bool.and_eq_true, decide_eq_true_eq] at this
    exact this
  · have q : ∀ g, (ready.seg g).queue = [] := by intro g; cases g <;> decide +kernel
    have f : ready.fill = none := by decide +kernel
    refine ⟨fun g => by simp [q], fun g h _ f hf => by simp [q] at hf, fun p hp => by simp [f] at hp, fun g => ?_⟩
    simp [q, f]
  · intro g
    have n : (ready.seg g).next = none := by cases g <;> decide +kernel
    refine ⟨?_, fun c h => by rw [n] at h; cases h⟩
    cases g <;> (unfold SegConfigInRange; decide +kernel)

/-- The four laws that every step keeps: their hypotheses hold together at `ready` with a command waiting, and the step
answers a next state. -/
theorem test_StepKeeps_met : StagingLaw ready ∧ SlotShapes ready ∧ ClaimsDistinct ready ∧ RecordsValid ready
    ∧ FaultLaw ready ∧ FramePlaces ready ∧ FlagsInRange ready ∧ ConfigInRange ready.config ∧ SegConfigsInRange ready
    ∧ ∃ t, step ready = .next t := by
  obtain ⟨a, b, c, d, e, f, g⟩ := test_ready_meets_the_laws
  exact ⟨a, ready_shapes, ready_claims, b, c, d, e, f, g, _, rfl⟩

/-! ##### The laws on slots, queues, segments and timers, as checks that compute -/

/-- A check made on the four segments. -/
def everySeg (p : Seg → Bool) : Bool := [Seg.a, .b, .c, .d].all p

theorem everySeg_sound {p : Seg → Bool} (h : everySeg p = true) (g : Seg) : p g = true :=
  List.all_eq_true.mp h g (by cases g <;> decide)

theorem queuesOwned_of {s : State} (h : everySeg (fun g => decide (∀ f ∈ (s.seg g).queue, ∃ i ∈ (s.frame f).owner,
    (s.slot i).state ≠ .free ∧ ∃ r ∈ (s.slot i).cur, r.seg = g)) = true) : QueuesOwned s := fun g f hf => by
  obtain ⟨i, a, b, r, c, d⟩ := of_decide_eq_true (everySeg_sound h g) f hf
  exact ⟨i, r, a, b, c, d⟩

theorem pending_of {s : State} (h : decide (∀ i : SlotId, (s.slot i).pend.isSome = true →
    s.marker i ≠ .none ∨ s.queued i ≠ 0) = true) : PendingOnlyWhileBusy s := fun i => of_decide_eq_true h i

theorem draining_of {s : State} (h : decide (∀ i : SlotId, (s.slot i).state = .draining →
    s.marker i ≠ .none ∨ s.queued i ≠ 0) = true) : DrainingOnlyWhileBusy s := fun i => of_decide_eq_true h i

theorem outOfService_of {s : State} (h : everySeg (fun g => decide ((s.seg g).state = .disabled ∨ (s.seg g).state = .faulted →
    (s.seg g).queue = [] ∧ s.reserved g = 0 ∧ (∀ d ∈ (s.seg g).down, d.detached = true) ∧ (s.seg g).cursor = none
      ∧ (s.seg g).presence = Vector.replicate 112 .unknown)) = true) : OutOfServiceIsEmpty s :=
  fun g => of_decide_eq_true (everySeg_sound h g)

/-- The transaction of the part on a segment, if it has one, is as L9 says. -/
def carries (s : State) (g : Seg) (d : Down) : Bool :=
  match d.work with
  | .routed _ => (s.seg g).state = .owned && s.txn.any fun t => t.seg = g && t.stage ≠ .waiting
  | .delivery f _ _ => (s.seg g).state = .owned && f ∈ (s.seg g).queue && d.pos ≠ .boundary && d.pos ≠ .readAck
  | _ => (s.seg g).state = .owned && d.pos ≠ .boundary && d.pos ≠ .readAck

theorem carries_sound {s : State} {g : Seg} {d : Down} (h : carries s g d = true) :
    (s.seg g).state = .owned
      ∧ (∀ frameOut, d.work = .routed frameOut → ∃ t, s.txn = some t ∧ t.seg = g ∧ t.stage ≠ .waiting)
      ∧ (∀ f k acked, d.work = .delivery f k acked → f ∈ (s.seg g).queue)
      ∧ (d.pos = .boundary ∨ d.pos = .readAck → ∃ frameOut, d.work = .routed frameOut) := by
  cases w : d.work <;>
    simp only [carries, w, Bool.and_eq_true, decide_eq_true_eq, Option.any_eq_true] at h
  · obtain ⟨o, t, e, a, b⟩ := h
    exact ⟨o, fun _ _ => ⟨t, e, a, b⟩, nofun, fun _ => ⟨_, rfl⟩⟩
  · obtain ⟨⟨⟨o, q⟩, b⟩, r⟩ := h
    exact ⟨o, nofun, fun _ _ _ e => by cases e; exact q, fun p => (p.elim b r).elim⟩
  all_goals
    obtain ⟨⟨o, b⟩, r⟩ := h
    exact ⟨o, nofun, nofun, fun p => (p.elim b r).elim⟩

theorem oneTransaction_of {s : State}
    (h : (everySeg (fun g => ((s.seg g).down.all fun d => d.detached || carries s g d)
        && ((s.seg g).claim.isNone || s.txn.any fun t => t.seg = g))
      && s.txn.all fun t => (s.slot t.slot).cur.any fun r => r.seg = t.seg) = true) : OneTransaction s := by
  obtain ⟨a, b⟩ := Bool.and_eq_true_iff.mp h
  refine ⟨fun g d e k => ?_, fun t e => ?_, fun g c => ?_⟩
  · have := (Bool.and_eq_true_iff.mp (everySeg_sound a g)).1
    rw [e, Option.all_some, k, Bool.false_or] at this
    exact carries_sound this
  · rw [e, Option.all_some, Option.any_eq_true] at b
    obtain ⟨r, x, y⟩ := b
    exact ⟨r, x, of_decide_eq_true y⟩
  · have := (Bool.and_eq_true_iff.mp (everySeg_sound a g)).2
    rw [Option.isNone_eq_false_iff.mpr c, Bool.false_or, Option.any_eq_true] at this
    obtain ⟨t, x, y⟩ := this
    exact ⟨t, x, of_decide_eq_true y⟩

theorem framePlaces_of {s : State} (h : everySeg (fun g =>
    decide (s.seg g).queue.Nodup
      && everySeg (fun k => g = k || decide (∀ f ∈ (s.seg g).queue, f ∉ (s.seg k).queue))
      && decide (∀ p ∈ s.fill, p.frame ∉ (s.seg g).queue)
      && decide ((s.seg g).queue.length + (if s.fill.any (fun p => p.seg = g) then 1 else 0) ≤ 8)) = true) :
    FramePlaces s := by
  have all := fun g => everySeg_sound h g
  simp only [Bool.and_eq_true, decide_eq_true_eq] at all
  refine ⟨fun g => (all g).1.1.1, fun g k n => ?_, fun p e g => (all g).1.2 p e, fun g => (all g).2⟩
  have := everySeg_sound (all g).1.1.2 k
  simpa only [n, decide_false, Bool.false_or, decide_eq_true_eq] using this

/-- The fill position holds the open fill of a slot. -/
def fillOpen (s : State) (i : SlotId) : Bool :=
  s.fill.any fun p => (s.slot i).cur.any fun r =>
    (s.frame p.frame).owner = some i && (s.slot i).pend = none
      && ((s.slot i).state = .live || (s.slot i).state = .held || (s.slot i).state = .quarantined)
      && ((s.frame p.frame).orphan || r.seg = p.seg)

theorem fillOpen_sound {s : State} {i : SlotId} (h : fillOpen s i = true) : FillOpenFor s i := by
  simp only [fillOpen, Option.any_eq_true, Bool.and_eq_true, Bool.or_eq_true, decide_eq_true_eq] at h
  obtain ⟨p, e, r, c, ⟨⟨o, n⟩, t⟩, q⟩ := h
  exact ⟨p, r, e, o, n, or_assoc.mp t, c, q⟩

theorem portAndFill_of {s : State}
    (h : ((s.port.state ≠ .postedFill || s.port.hand.any (fillOpen s))
      && (s.port.held.all fun x => (s.port.state = .address || s.port.state = .tenFirst) && s.port.wait = none
        && (x.kind ≠ .fill || fillOpen s x.slot))
      && (s.port.wait.isNone || s.port.state = .address)
      && s.txn.all fun t => t.frame.all fun f => (s.fill.any fun p => p.frame = f) && s.port.state ≠ .postedFill
        && (s.port.held.all fun x => x.kind ≠ .fill)
        && s.port.wait.all fun w => !w.deferred || !w.compound) = true) : PortAndFillAgree s := by
  simp only [Bool.and_eq_true, Bool.or_eq_true, decide_eq_true_eq, Option.all_eq_true, Option.any_eq_true] at h
  obtain ⟨⟨⟨a, b⟩, c⟩, d⟩ := h
  refine ⟨fun e => ?_, fun x e => ?_, fun e => ?_, fun t f e k => ?_⟩
  · rcases a with a | ⟨i, x, y⟩
    · exact absurd e a
    · exact ⟨i, x, fillOpen_sound y⟩
  · obtain ⟨⟨p, q⟩, r⟩ := b x e
    exact ⟨p, q, fun k => fillOpen_sound (r.resolve_left fun n => n k)⟩
  · exact c.resolve_left fun n => by simp_all
  · obtain ⟨⟨⟨⟨p, x, y⟩, q⟩, r⟩, w⟩ := d t e f k
    refine ⟨⟨p, x, y⟩, q, fun x e => r x e, fun w' e k => ?_⟩
    have := w w' e
    simpa [k] using this

/-- Five parts of `TimersRun`, each by a computed check. -/
theorem timersRun_of {s : State}
    (h : ((s.port.low.isSome == (s.port.state ≠ .idle && s.port.state ≠ .notAddressed && s.port.stretch.isNone))
      && (s.port.low.all fun n => n < 45) && (s.port.stretch.all fun x => x.elapsed < x.limit)
      && (s.session.all fun x => x.elapsed < x.limit * 100)
      && everySeg fun g => ((s.seg g).busFree.all fun n => n < 50 && (s.seg g).state = .external)
        && (s.seg g).low.all fun n => n < (s.seg g).cfg.lowLimit
          && ((s.seg g).state = .external || (s.seg g).state = .owned || (s.seg g).state = .recovering)) = true) :
    TimersRun s := by
  simp only [Bool.and_eq_true, Option.all_eq_true, decide_eq_true_eq, beq_iff_eq] at h
  obtain ⟨⟨⟨⟨a, b⟩, c⟩, d⟩, e⟩ := h
  have seg := fun g => everySeg_sound e g
  simp only [Bool.and_eq_true, Bool.or_eq_true, Option.all_eq_true, decide_eq_true_eq, or_assoc] at seg
  refine ⟨?_, b, c, d, fun g n x => (seg g).1 n x, fun g n x => (seg g).2 n x⟩
  rw [a]
  simp [and_assoc]

/-- A routed transaction of slot 2 that has a retire pending in its TAIL, and the frame of slot 0, DRAINING, queued behind
it. -/
def busy : State :=
  run [.start, .addressByte 0x22 false, .targetAddressAnswer .a true, .stop, .start, .addressByte 0x20 false,
    .postedFillByte 1, .stop, .editOpen 1 none, .editStage 1 none 2 0 3 [0], .editStage 1 none 2 2 3 [0],
    .editCommit 1 none 2]

theorem partLaws_busy : PartLaws busy :=
  ⟨queuesOwned_of (by decide +kernel), pending_of (by decide +kernel), oneTransaction_of (by decide +kernel),
    outOfService_of (by decide +kernel), draining_of (by decide +kernel), portAndFill_of (by decide +kernel)⟩

/-- StepKeepsSlotsQueuesAndSegments and the timers of StepKeepsRanges: the premises hold together at `busy`, whose STOP is
about to complete, and the step frees slot 2 and delivers the frame of slot 0. -/
theorem test_StepKeepsParts_met :
    let s := { busy with pending := [.segmentStopComplete .a] }
    StagingLaw busy ∧ SlotShapes busy ∧ FramePlaces busy ∧ PartLaws busy ∧ ConfigInRange busy.config
      ∧ SegConfigsInRange busy ∧ TimersRun busy ∧ (busy.slot 2).pend = some (.retire .drain)
      ∧ (busy.slot 0).state = .draining ∧ (busy.seg .a).queue = [0] ∧ busy.marker 2 = .routed
      ∧ ∃ t, step s = .next t ∧ t.slot 2 = Slot.free ∧ t.marker 0 = .delivery ∧ (t.seg .a).low = some 0 := by
  refine ⟨by unfold StagingLaw; decide +kernel, by unfold SlotShapes; decide +kernel, framePlaces_of (by decide +kernel),
    partLaws_busy, by unfold ConfigInRange; decide +kernel, fun g => ?_, timersRun_of (by decide +kernel), by decide +kernel,
    by decide +kernel, by decide +kernel, by decide +kernel, after busy [.segmentStopComplete .a], ?_, by decide +kernel,
    by decide +kernel, by decide +kernel⟩
  · have n : (busy.seg g).next = none := by cases g <;> decide +kernel
    refine ⟨?_, fun c h => by rw [n] at h; cases h⟩
    cases g <;> (unfold SegConfigInRange; decide +kernel)
  · have : busy.pending = [] := by decide +kernel
    show exec (.segmentStopComplete .a) { busy with pending := [] } = _
    rw [← this]
    rfl

/-! #### The machine and the management protocol -/

/-- A management write with no byte yet. -/
def writingPort : State := run [.start, .addressByte 0x5C false]

/-- A 1 ms step: the upstream-low timer in a management write, the low-limit timer behind another master, the bus-free
timer after the enable, which stands 1 below its limit. -/
theorem test_Idle_timers :
    (writingPort.port.low, (State.tick writingPort).port.low) = (some 0, some 1)
    ∧ (let s := run [.externalStart .a]
       ((s.seg .a).low, ((State.tick s).seg .a).low) = (some 0, some 1))
    ∧ (let s := after State.reset [.segmentConfig 7 none 0 1 0 30 1 0]
       ((s.seg .a).busFree, ((State.tick s).seg .a).busFree) = (some 0, some 49) ∧ (s.seg .b).busFree = none)
    ∧ TimersRun writingPort ∧ writingPort.pending = [] :=
  ⟨by decide +kernel, by decide +kernel, by decide +kernel, timersRun_of (by decide +kernel), by decide +kernel⟩

theorem test_Idle_met : ready.pending = []
    ∧ ((run [.editOpen 1 none, .start,
        .addressByte 0x22 true]).port.stretch.any fun t => t.elapsed + 1 < t.limit) = true
    ∧ ((run [.editOpen 1 none]).session.any fun x => x.elapsed + 1 < x.limit * 100) = true := by decide +kernel

theorem test_DeviceReset_met : ready.inReset = false ∧ (run [.deviceReset]).inReset = true
    ∧ (run [.deviceReset, .deviceResetEnd true false]).mgmtAddr = 0x5E
    ∧ ((run [.deviceReset, .segmentAlertFall .a]).seg .a).alertLow = true
    ∧ ((run [.segmentAlertFall .a, .deviceReset, .segmentAlertRise .a]).seg .a).alertLow = false
    ∧ (∀ x y, (Instr.start) ≠ .deviceResetEnd x y) := by
  refine ⟨by decide +kernel, by decide +kernel, by decide +kernel, by decide +kernel, by decide +kernel,
    fun _ _ h => by cases h⟩

theorem test_ManagementRow_met : (Instr.editOpen 1 none).frame? = some [0x10, 1]
    ∧ (Instr.editOpen 1 none).wellFormed = true
    ∧ ready.inReset = false ∧ ready.port = Port.idle ∧ 0x5C ≤ ready.mgmtAddr
    ∧ ready.mgmtAddr ≤ 0x5F := by decide +kernel

/-- A management write with these bytes so far. -/
def writing (bytes : List Byte) : State := run (.start :: .addressByte 0x5C false :: bytes.map .mgmtWriteByte)

theorem test_ManagementBytes_met : (writing []).inReset = false ∧ (writing []).port.state = .mgmtWrite
    ∧ (writing (List.replicate 23 1)).port.asm.length = 23 ∧ (writing (List.replicate 24 1)).port.asm.length = 24
    ∧ (run [.start, .addressByte 0x5C true]).port.state = .mgmtRead
    ∧ (run [.start, .addressByte 0x5C true]).port.send ≠ []
    ∧ (run [.start, .addressByte 0x5C true, .mgmtReadByte false]).port.send = []
    ∧ (run [.start, .addressByte 0x5C true, .mgmtReadByte false]).port.state = .mgmtRead
    ∧ ready.port.state ≠ .mgmtWrite ∧ ready.port.state ≠ .mgmtRead := by decide +kernel

/-- The port in a management write that has these marks. -/
def inWrite (s : State) : Bool := !s.inReset && s.port.state = .mgmtWrite && s.port.stretch.isNone

theorem test_FrameChecks_met : inWrite (writing []) = true ∧ (writing []).port.asm = []
    ∧ (writing (List.replicate 25 1)).port.overlong = true ∧ inWrite (writing (List.replicate 25 1)) = true
    ∧ (writing [0x01]).port.asm = [0x01] ∧ (writing [0x81, 1]).port.asm = [0x81, 1]
    ∧ crc8 [0xB8, 0x81, 0x01] ≠ 0xF6 ∧ (writing [0x81, 1, 0xF6]).port.asm = [0x81, 1, 0xF6]
    ∧ (writing [0x7E, 1]).port.asm = [0x7E, 1] ∧ argumentCounts 0x7E [] = none
    ∧ argumentCounts 0x10 [5] = some [0] ∧ (writing [0x10, 1, 5]).port.asm = [0x10, 1, 5]
    ∧ (writing [0x10, 1, 5]).config.checkRequired = false
    ∧ (let s := after State.reset [.deviceConfigWrite 1 none 25 20 1 0 0 0 0, .start, .addressByte 0x5C false,
        .mgmtWriteByte 1, .mgmtWriteByte 1]
       s.config.checkRequired = true ∧ inWrite s = true) := by decide +kernel

theorem test_FrameChecks_answers :
    ((after (writing [0x81, 1, 0xF6]) [.stop]).resp.status, (after (writing [0x81, 1, 0xF7]) [.stop]).resp.status,
      (after (writing [0x7E, 1]) [.stop]).resp.status, (after (writing [0x10, 1, 5]) [.stop]).resp.status)
      = (.badCheck, .ok, .badCommand, .badLength) := by decide +kernel

theorem test_Device_commands_met : Takes ready 0x01 1 none [] ∧ Takes ready 0x02 1 none []
    ∧ Takes ready 0x03 1 none [50, 255, 1, 0x0F, 0, 0, 0] ∧ Takes ready 0x0F 1 none [0] ∧ Takes ready 0x0F 1 none [1] :=
  ⟨ready_takes _ _ _, ready_takes _ _ _, ready_takes _ _ _, ready_takes _ _ _, ready_takes _ _ _⟩

theorem test_Takes_with_check : Takes ready 0x01 0x01 (some 0xF7) [] := by
  refine ⟨by decide +kernel, by decide +kernel, ?_⟩
  show _ = _
  decide +kernel

theorem test_config_boundaries :
    ((after ready [.deviceConfigWrite 1 none 50 255 1 0x0F 0 0 0]).resp.status,
      (after ready [.deviceConfigWrite 1 none 51 255 1 0x0F 0 0 0]).resp.data,
      (after ready [.deviceConfigWrite 1 none 1 0 1 0x0F 0 0 0]).resp.data,
      (after ready [.deviceConfigWrite 1 none 1 1 2 0x0F 0 0 0]).resp.data,
      (after ready [.deviceConfigWrite 1 none 1 1 0 0x10 0 0 0]).resp.data)
      = (.ok, [0x10], [0x11], [0x12], [0x13]) := by decide +kernel

/-! #### The edit session and the commit -/

/-- The session of token 2 open, with this list staged. -/
def staged (cs : List Instr) : State := run (.editOpen 1 none :: cs)

theorem staged_takes (code tag : Byte) (args : List Byte) : Takes (staged []) code tag none args := takes (by decide +kernel)

theorem test_Edit_met : Takes ready 0x10 1 none [] ∧ ready.session = none ∧ Takes (staged []) 0x10 1 none []
    ∧ (staged []).session = some { token := 2, limit := 20, elapsed := 0 } :=
  ⟨ready_takes _ _ _, by decide +kernel, staged_takes _ _ _, by decide +kernel⟩

/-- TokenDecides: no session, another token, the session's token. -/
theorem test_TokenDecides_met : Takes ready 0x13 1 none [2] ∧ ready.session = none ∧ Takes (staged []) 0x13 1 none [9]
    ∧ Takes (staged []) 0x13 1 none [2] ∧ (staged []).session.any (fun x => x.token = 2 ∧ x.token ≠ 9) = true
    ∧ (Instr.editList 1 none 2).wellFormed = true :=
  ⟨ready_takes _ _ _, by decide +kernel, staged_takes _ _ _, staged_takes _ _ _, by decide +kernel, rfl⟩

theorem test_EditSessionCloses_met : (staged []).inReset = false ∧ (staged []).session.isSome = true
    ∧ ready.session = none ∧ Takes (staged []) 0x15 1 none [2] ∧ (staged []).staging = []
    ∧ Takes (staged []) 0x15 1 none [3] :=
  ⟨by decide +kernel, by decide +kernel, by decide +kernel, staged_takes _ _ _, by decide +kernel, staged_takes _ _ _⟩

theorem test_EditStageChecks_met :
    Takes (staged []) 0x11 1 none [2, 64, 1, 0, 0, 0x20, 0, 0x40, 1, 1] ∧ Takes (staged []) 0x11 1 none [2, 63, 4, 9]
    ∧ (Instr.editStage 1 none 2 63 4 [9]).wellFormed = true ∧ Takes (staged []) 0x11 1 none [2, 63, 3, 2]
    ∧ (Instr.editStage 1 none 2 63 3 [2]).wellFormed = true
    ∧ (fieldFailures 0x5C 0 0 0x5C 0x40 1 1).head? = some 0x03
    ∧ (fieldFailures 0x5C 0 4 0x20 0x40 1 1).head? = some 0x03
    ∧ (fieldFailures 0x5C 0 0 0x77 0x78 0 0).head? = some 0x04 ∧ (fieldFailures 0x5C 0x60 0 8 8 0 0).head? = some 0x05
    ∧ (fieldFailures 0x5C 0x04 0 8 8 1 1).head? = some 0x06 ∧ (fieldFailures 0x5C 0x1C 0 8 8 1 1).head? = some 0x06
    ∧ (fieldFailures 0x5C 0 0 8 0x77 33 1).head? = some 0x07 ∧ (fieldFailures 0x5C 0 0 8 0x77 32 16).head? = some 0x08
    ∧ (fieldFailures 0x5C 0 0 8 0x77 32 15).head? = none :=
  ⟨staged_takes _ _ _, staged_takes _ _ _, rfl, staged_takes _ _ _, rfl, by decide +kernel⟩

/-- Sixteen entries staged. -/
def full : State := staged ((List.range 16).map fun k => .editStage 1 none 2 (BitVec.ofNat 8 (6 + k)) 3 [0])

theorem test_EditStagePlaces_met :
    Takes (staged []) 0x11 1 none [2, BitVec.ofNat 8 7, 3, 0]
      ∧ stagedAction (staged []).mgmtAddr 3 [0] = some (.retire .drain)
    ∧ (∀ e ∈ (staged []).staging, e.slot ≠ 7) ∧ (staged []).staging.length < 16
    ∧ (staged [.editStage 1 none 2 7 3 [1]]).staging = [] ++ { slot := 7, action := .retire .discard } :: []
    ∧ full.staging.length = 16 ∧ (∀ e ∈ full.staging, e.slot ≠ 63)
    ∧ (full.inReset, full.port.state, full.config.checkRequired) = (false, .idle, false)
    ∧ (after full [.editStage 1 none 2 63 3 [0]]).resp.status = .stagingFull
    ∧ (after full [.editStage 1 none 2 21 3 [1]]).resp.data = [15, 16] :=
  ⟨staged_takes _ _ _, by decide +kernel⟩

theorem test_EditUnstageAndList_met :
    Takes (staged []) 0x12 1 none [2, 64] ∧ Takes (staged []) 0x12 1 none [2, 63] ∧ Takes (staged []) 0x13 1 none [2]
    ∧ (∀ e ∈ (staged []).staging, (63 : Byte) ≠ BitVec.ofNat 8 e.slot.val)
    ∧ full.staging[3]?.map Entry.slot = some 9
    ∧ (after full [.editUnstage 1 none 2 9]).resp.data = [15]
    ∧ (after full [.editList 1 none 2]).resp.data.length = 33 :=
  ⟨staged_takes _ _ _, staged_takes _ _ _, staged_takes _ _ _, by decide +kernel⟩

/-- The slots in the states that the commit's checks tell apart: 0 DRAINING with a queued frame,
    2 with a pending retire. -/
def retiring : State :=
  run [.externalStart .a, .start, .addressByte 0x20 false, .postedFillByte 1, .stop, .editOpen 1 none,
    .editStage 1 none 2 0 3 [0], .editCommit 1 none 2, .busFreeTime .a]
def pendingRetire : State :=
  run [.start, .addressByte 0x22 false, .targetAddressAnswer .a true, .stop, .editOpen 1 none,
    .editStage 1 none 2 2 3 [0], .editCommit 1 none 2]

theorem test_CommitChecks_met : (ready.slot 0).state ≠ .free ∧ (ready.slot 6).state = .free
    ∧ (retiring.slot 0).state = .draining ∧ (pendingRetire.slot 2).pend = some (.retire .drain)
    ∧ (pendingRetire.slot 2).state ≠ .free ∧ (ready.slot 0).state ≠ .draining ∧ (ready.slot 0).pend = none
    ∧ ((run [.routeHold 1 none 0]).slot 0).state = .held ∧ ((run [.routeHold 1 none 0]).slot 0).pend = none
    ∧ (let s := run [.start, .tenBitFirstByte 0, .tenBitSecondByte 0x20, .targetAddressAnswer .a false,
        .segmentStopComplete .a]
       (s.slot 3).state = .quarantined ∧ (s.slot 3).pend = none)
    ∧ (let e : Entry := { slot := 6, action := .create (route .seven 0x30 .b 0x50 .cutThrough 1 1) false }
       ready.entryFailure [e] e = none)
    ∧ (let e : Entry := { slot := 0, action := .modify (route .seven 0x30 .b 0x50 .cutThrough 1 1) false }
       ready.entryFailure [e] e = none ∧ (run [.routeHold 1 none 0]).entryFailure [e] e = none) := by decide +kernel

/-- The answers of the commit to a key in the table, a key in the list, a pair in the table and a pair in the list. -/
theorem test_CommitRefused_met :
    (after (staged [.editStage 1 none 2 6 1 [0, 0, 0x20, 1, 0x50, 1, 1]]) [.editCommit 1 none 2]).resp =
      { status := .validationFailed, tag := 1, data := [0, 4, 6, 0] }
    ∧ (after (staged [.editStage 1 none 2 6 1 [0, 0, 0x30, 1, 0x50, 1, 1], .editStage 1 none 2 7 1 [0, 0, 0x30, 1,
        0x51, 1, 1]])
        [.editCommit 1 none 2]).resp.data = [0, 4, 6, 7]
    ∧ (after (staged [.editStage 1 none 2 6 1 [0, 0, 0x30, 0, 0x40, 1, 1]]) [.editCommit 1 none 2]).resp.data = [0,
        5, 6, 0]
    ∧ (after (staged [.editStage 1 none 2 6 1 [0, 0, 0x30, 1, 0x50, 1, 1], .editStage 1 none 2 7 1 [0, 0, 0x31, 1,
        0x50, 1, 1]])
        [.editCommit 1 none 2]).resp.data = [0, 5, 6, 7]
    ∧ (after (staged [.editStage 1 none 2 6 3 [0]]) [.editCommit 1 none 2]).resp.data = [0, 2, 6,
        6] := by decide +kernel
theorem test_CommitRefused_takes :
    Takes (staged [.editStage 1 none 2 6 3 [0]]) 0x14 1 none [2]
      ∧ (staged [.editStage 1 none 2 6 3 [0]]).staging = [] ++ { slot := 6, action := .retire .drain } :: []
      ∧ (staged [.editStage 1 none 2 6 3 [0]]).entryFailure (staged [.editStage 1 none 2 6 3 [0]]).staging
          { slot := 6, action := .retire .drain } = some (.slotFree, 6) :=
  ⟨takes (by decide +kernel), by decide +kernel⟩

/-- A frame of slot 0 queued while segment A is EXTERNAL, with one entry staged for the slot. -/
def queuedWith (e : Instr) : State :=
  run [.externalStart .a, .start, .addressByte 0x20 false, .postedFillByte 1, .stop, .editOpen 1 none, e]

/-- What the statement about an applied commit needs of a state with one entry. -/
def commits (s : State) (i : SlotId) (routed : Bool) (queued : Nat) : Bool :=
  decide ((s.inReset, s.port.state, s.config.checkRequired) = (false, .idle, false)) && s.session.isSome
    && decide (s.staging.map Entry.slot = [i]) && s.staging.all (fun e => (s.entryFailure s.staging e).isNone)
    && decide (s.marker i ≠ .none) == routed && s.queued i == queued

theorem test_CommitApplies_met :
    commits (staged [.editStage 1 none 2 6 1 [0, 0, 0x30, 1, 0x50, 1, 1]]) 6 false 0 = true
    ∧ commits (staged [.editStage 1 none 2 0 2 [0, 0, 0x30, 1, 0x50, 1, 1]]) 0 false 0 = true
    ∧ commits (queuedWith (.editStage 1 none 2 0 2 [0, 0, 0x30, 1, 0x50, 1, 1])) 0 false 1 = true
    ∧ commits (staged [.editStage 1 none 2 0 3 [0]]) 0 false 0 = true
    ∧ commits (queuedWith (.editStage 1 none 2 0 3 [0])) 0 false 1 = true
    ∧ commits (queuedWith (.editStage 1 none 2 0 3 [1])) 0 false 1 = true
    ∧ commits (run [.start, .addressByte 0x22 false, .targetAddressAnswer .a true, .stop, .editOpen 1 none,
        .editStage 1 none 2 2 3 [0]]) 2 true 0 = true := by decide +kernel

/-- A queue of three: slot 0, slot 4 and slot 0 again, behind another master on segment A, with one entry staged. -/
def queuedThree (e : Instr) : State :=
  run [.externalStart .a, .start, .addressByte 0x20 false, .postedFillByte 1, .stop, .start, .tenBitFirstByte 1,
    .tenBitSecondByte 0x20, .postedFillByte 2, .stop, .start, .addressByte 0x20 false, .postedFillByte 3, .stop,
    .editOpen 1 none, e]

/-- The laws that the statement about an applied commit assumes hold, with slot 0 at marker NONE: DISCARD takes the two
frames of slot 0 and leaves that of slot 4, DRAIN leaves all three. -/
theorem test_CommitApplies_queues :
    let discard := queuedThree (.editStage 1 none 2 0 3 [1])
    let drain := queuedThree (.editStage 1 none 2 0 3 [0])
    StagingLaw discard ∧ QueuesOwned discard ∧ discard.marker 0 = .none ∧ (discard.seg .a).queue = [0, 1, 2]
      ∧ ((after discard [.editCommit 1 none 2]).seg .a).queue = [1]
      ∧ (after discard [.editCommit 1 none 2]).frame 2 = Frame.empty
      ∧ StagingLaw drain ∧ QueuesOwned drain ∧ ((after drain [.editCommit 1 none 2]).seg .a).queue = [0, 1, 2] :=
  ⟨by unfold StagingLaw; decide +kernel, queuesOwned_of (by decide +kernel), by decide +kernel, by decide +kernel,
    by decide +kernel, by decide +kernel, by unfold StagingLaw; decide +kernel, queuesOwned_of (by decide +kernel),
    by decide +kernel⟩

/-! #### Routes -/

def quarantined : State :=
  run [.start, .tenBitFirstByte 0, .tenBitSecondByte 0x20, .targetAddressAnswer .a false, .stop,
      .segmentStopComplete .a]

theorem test_Operational_met : Takes ready 0x18 1 none [64] ∧ Takes quarantined 0x1A 1 none [3]
    ∧ (ready.slot 0).state = .live ∧ (quarantined.slot 3).state = .quarantined
    ∧ ((run [.routeHold 1 none 0]).slot 0).state = .held ∧ Takes (run [.routeHold 1 none 0]) 0x19 1 none [0]
    ∧ (ready.slot 63).state ≠ .live :=
  ⟨ready_takes _ _ _, takes (by decide +kernel), by decide +kernel, by decide +kernel, by decide +kernel,
    takes (by decide +kernel), by decide +kernel⟩

theorem test_RouteRead_met : Takes ready 0x20 1 none [64] ∧ (ready.slot 63).cur = none
    ∧ (ready.slot 0).cur.isSome = true
    ∧ (ready.slot 0).pend = none ∧ (pendingRetire.slot 2).pend = some (.retire .drain) :=
  ⟨ready_takes _ _ _, by decide +kernel⟩

theorem test_RouteQueries_met : ClaimsDistinct ready ∧ SlotShapes ready ∧ Takes ready 0x21 1 none [0x20, 0]
    ∧ (ready.slot 0).cur.any (fun r => r.key = sevenKey 0x20) = true
    ∧ (ready.slot 4).cur.any (fun r => r.key = tenKey 1 0x20) = true
    ∧ (after ready [.routeFindVirtual 1 none 0x11 0x20]).resp.data = [4, 1]
    ∧ (after ready [.routeFindVirtual 1 none 0x20 0]).resp.data = [0x17]
    ∧ (after ready [.routeFindVirtual 1 none 0x14 0]).resp.data = [0x03]
    ∧ (after ready [.routeFindVirtual 1 none 0 0x5C]).resp.data = [0x03]
    ∧ (after ready [.routeFindVirtual 1 none 0x13 0xFF]).resp.status = .notFound
    ∧ (after ready [.routeFindTarget 1 none 4 8]).resp.data = [0x0A]
    ∧ (after ready [.routeFindTarget 1 none 3 0x78]).resp.data = [0x04]
    ∧ (after ready [.routeFindTarget 1 none 1 0x44]).resp.data = [5, 1]
    ∧ (after ready [.routeFindTarget 1 none 3 0x77]).resp.status = .notFound :=
  ⟨ready_claims, ready_shapes, ready_takes _ _ _, by decide +kernel⟩

theorem test_RecordBytes_met : RecordValid 0x5C { route .ten 0x3FF .d 0x77 .posted 32 15 with
    access := .writeOnly
    check := .verifyRegen
    autoRevive := true } := by
  unfold RecordValid; decide +kernel

/-! #### The segment and attention commands -/

/-- A segment that has gone through recovery to FAULTED: low limit, then a low limit in recovery. -/
def faulted : State := run [.segmentLowTimeout .a, .recoveryLowLimit .a]
def recovering : State := run [.segmentLowTimeout .a]
def owned : State := run [.start, .addressByte 0x22 false, .targetAddressAnswer .a true, .stop]

theorem test_SegmentConfig_met : Takes ready 0x30 1 none [4, 1, 0, 30, 1, 0]
    ∧ Takes faulted 0x30 1 none [0, 1, 0, 40, 3, 0x77]
    ∧ Takes recovering 0x30 1 none [0, 0, 0, 10, 0, 8] ∧ Takes owned 0x30 1 none [0, 0, 0, 10, 0, 8]
    ∧ (faulted.seg .a).state = .faulted ∧ (recovering.seg .a).state = .recovering ∧ (owned.seg .a).state = .owned
    ∧ (ready.seg .c).state = .disabled ∧ (ready.seg .a).state = .idle
    ∧ ((run [.externalStart .a]).seg .a).state = .external :=
  ⟨ready_takes _ _ _, takes (by decide +kernel), takes (by decide +kernel), takes (by decide +kernel),
      by decide +kernel⟩

theorem test_SegmentConfig_fields :
    ((after ready [.segmentConfig 1 none 0 2 0 30 1 0]).resp.data,
        (after ready [.segmentConfig 1 none 0 1 2 30 1 0]).resp.data,
      (after ready [.segmentConfig 1 none 0 1 0 9 1 0]).resp.data,
          (after ready [.segmentConfig 1 none 0 1 0 41 1 0]).resp.data,
      (after ready [.segmentConfig 1 none 0 1 0 10 4 0]).resp.data)
      = ([0x0B], [0x0C], [0x0D], [0x0D], [0x0E])
    ∧ (after ready [.segmentConfig 1 none 0 1 0 40 3 7]).resp.data = [0x0F]
    ∧ (after owned [.segmentConfig 1 none 0 0 0 40 3 8]).resp.data = [0, 1, 3] := by decide +kernel

theorem test_SegmentClear_met : Takes faulted 0x31 1 none [0] ∧ Takes recovering 0x31 1 none [0]
    ∧ Takes owned 0x31 1 none [0]
    ∧ Takes ready 0x31 1 none [0] ∧ (owned.seg .a).down.isSome = true ∧ owned.txn.isSome = true
    ∧ (after owned [.segmentClear 1 none 0]).resp.status = .accepted
    ∧ (after recovering [.segmentClear 1 none 0]).resp.data = [0, 4] :=
  ⟨takes (by decide +kernel), takes (by decide +kernel), takes (by decide +kernel), ready_takes _ _ _,
      by decide +kernel⟩

/-- What LeavingServiceEmptiesSegment assumes beside the state. -/
theorem leaving_laws {s : State} (shapes : SlotShapes s) (one : OneTransaction s) (places : FramePlaces s)
    (owned : QueuesOwned s) (down : (s.seg .a).down = none)
    (waits : (s.txn.all fun x => x.seg ≠ .a || x.stage = .waiting) = true) :
    SlotShapes s ∧ FramePlaces s ∧ QueuesOwned s ∧ OneTransaction s ∧ (s.seg .a).down = none
      ∧ (∀ x, s.txn = some x → x.seg = .a → x.stage = .waiting) := by
  refine ⟨shapes, places, owned, one, down, fun x e g => ?_⟩
  simpa [e, g] using waits

/-- A queue of three with slot 0 DRAINING, or with a MODIFY pending. -/
def drainingThree : State := after (queuedThree (.editStage 1 none 2 0 3 [0])) [.editCommit 1 none 2]
def modifyThree : State :=
  after (queuedThree (.editStage 1 none 2 0 2 [0x10, 0, 0x30, 1, 0x50, 1, 1])) [.editCommit 1 none 2]
/-- A compound read of slot 0 on segment A deferred behind the read of slot 5 on segment B. -/
def deferredOnA : State :=
  run [.externalStart .a, .start, .tenBitFirstByte 1, .tenBitSecondByte 0x21, .repeatedStart, .tenBitReadForm 1,
    .targetAddressAnswer .b true, .readByteClocked .b 1, .readDataAck false, .stop, .start, .addressByte 0x20 false,
    .postedFillByte 1, .repeatedStart, .addressByte 0x20 true]
def compoundWaiting : State := run [.externalStart .a, .start, .addressByte 0x20 false, .postedFillByte 1, .repeatedStart,
  .addressByte 0x20 true]

theorem test_LeavingService_met :
    (∀ s ∈ [drainingThree, modifyThree, deferredOnA, compoundWaiting],
      SlotShapes s ∧ FramePlaces s ∧ QueuesOwned s ∧ OneTransaction s ∧ (s.seg .a).down = none
        ∧ (∀ x, s.txn = some x → x.seg = .a → x.stage = .waiting))
    ∧ (drainingThree.slot 0).state = .draining ∧ (drainingThree.seg .a).queue = [0, 1, 2]
    ∧ (modifyThree.slot 0).pend.isSome = true
    ∧ (deferredOnA.port.wait.any fun w => w.deferred && w.compound) = true
    ∧ (deferredOnA.fill.any fun p => p.seg = .a) = true
    ∧ (compoundWaiting.txn.any fun t => t.seg = .a && t.frame.isSome) = true := by
  refine ⟨fun s h => ?_, by decide +kernel⟩
  simp only [List.mem_cons, List.not_mem_nil, or_false] at h
  rcases h with rfl | rfl | rfl | rfl <;>
    exact leaving_laws (by unfold SlotShapes; decide +kernel) (oneTransaction_of (by decide +kernel))
      (framePlaces_of (by decide +kernel)) (queuesOwned_of (by decide +kernel)) (by decide +kernel) (by decide +kernel)

/-- The ends of the three: slot 0 is freed with RETIRED and FRAME_DROPPED, slot 4 loses its frame; the MODIFY is applied;
the deferred compound frame is lost and its wait goes on without it; the waiting claim is withdrawn with a NACK. -/
theorem test_LeavingService_ends :
    (let t := drainingThree.leaveService .a .disabled
     t.slot 0 = Slot.free ∧ (t.slotOwner 0).flags = 0x4040 ∧ (t.slotOwner 4).flags = 0x0040 ∧ t.frame 1 = Frame.empty)
    ∧ (let t := modifyThree.leaveService .a .disabled
       (t.slot 0).pend = none ∧ (t.slot 0).cur.any (fun r => r.target = 0x50) = true ∧ (t.slotOwner 0).flags = 0x0040)
    ∧ (let t := deferredOnA.leaveService .a .disabled
       t.fill = none ∧ (t.slotOwner 0).flags = 0x0040 ∧ (t.port.wait.any fun w => w.deferred && !w.compound) = true)
    ∧ (let t := compoundWaiting.leaveService .a .disabled
       t.fill = none ∧ t.txn = none ∧ t.port.out = .nack ∧ (t.slotOwner 0).flags = 0x0040) := by decide +kernel

/-- A discovery sweep: the cursor at 08h, its probe on the lines. -/
def probing : State := run [.segmentDiscover 1 none 0]

theorem test_Discovery_met : Takes ready 0x33 1 none [0] ∧ Takes probing 0x33 1 none [0] ∧ Takes probing 0x34 1 none [0]
    ∧ Takes ready 0x34 1 none [0] ∧ (probing.seg .a).cursor = some 0x08 ∧ (ready.seg .a).cursor = none
    ∧ (after probing [.segmentDiscover 1 none 0]).resp.status = .busy
    ∧ (after probing [.discoverCancel 1 none 0]).resp.data = [0, 8]
    ∧ (after ready [.segmentDiscover 1 none 2]).resp.status = .wrongState :=
  ⟨ready_takes _ _ _, takes (by decide +kernel), takes (by decide +kernel), ready_takes _ _ _, by decide +kernel⟩

theorem test_StatusAndPresence_met : Takes probing 0x32 1 none [0] ∧ Takes probing 0x35 1 none [0]
    ∧ (after probing [.probeAnswer .a true, .presenceRead 1 none 0]).resp.data = 0 :: (0x80 :: List.replicate 27 0)
    ∧ (after probing [.segmentStatus 1 none 0]).resp.data = [0, 3, 3, 0, 0, 0, 0, 0, 0, 0, 8, 1, 0, 30, 1, 0, 0] :=
  ⟨takes (by decide +kernel), takes (by decide +kernel), by decide +kernel⟩

theorem test_Attention_met : Takes ready 0x40 1 none [] ∧ Takes ready 0x41 1 none [1, 63]
    ∧ Takes quarantined 0x42 1 none [1, 3, 2, 0x7F, 0xFF]
    ∧ (quarantined.slotOwner 3).stamp = 2
    ∧ (after quarantined [.attentionAck 1 none 1 3 2 0x7F 0xFF]).resp.data = [1, 3, 2, 0, 0]
    ∧ (after quarantined [.attentionAck 1 none 1 3 1 0x7F 0xFF]).resp.status = .stale
    ∧ (after ready [.attentionAck 1 none 1 3 0 0x80 0]).resp.data = [0x15]
    ∧ (after ready [.attentionAck 1 none 0 0 1 0 0x10]).resp.data = [0x15]
    ∧ (after ready [.attentionAck 1 none 2 3 0 2 0]).resp.data = [0x15]
    ∧ (after ready [.attentionAck 1 none 2 3 0 1 0xFF]).resp.data = [2, 3, 0, 0, 0]
    ∧ (after ready [.attentionRead 1 none 2 0]).resp.data = [2, 0, 0, 0, 0, 0xFF]
    ∧ (after ready [.attentionRead 1 none 3 0]).resp.data = [0x14]
    ∧ (after ready [.attentionRead 1 none 0 1]).resp.data = [0x14] :=
  ⟨ready_takes _ _ _, ready_takes _ _ _, takes (by decide +kernel), by decide +kernel⟩

theorem test_Alert_met : FlagsInRange ready ∧ ready.alertDrivenLow = true
    ∧ (after ready [.attentionAck 1 none 0 0 1 0 1]).alertDrivenLow = false :=
  ⟨test_ready_meets_the_laws.2.2.2.2.1, by decide +kernel⟩

/-! #### The upstream port -/

/-- States of the port on the way through a routed transaction of slot 2 and a fill of slot 0. -/
def addressed : State := run [.start]
def filling : State := run [.start, .addressByte 0x20 false]
def heldFill : State := run [.start, .addressByte 0x20 false, .postedFillByte 1, .repeatedStart]
def waiting : State := run [.externalStart .a, .start, .addressByte 0x22 false]
def granted : State := run [.start, .addressByte 0x22 false]
def writingCt : State := run [.start, .addressByte 0x22 false, .targetAddressAnswer .a true]
def heldCt : State := run [.start, .addressByte 0x22 false, .targetAddressAnswer .a true, .repeatedStart]
def reading : State := run [.start, .addressByte 0x22 true, .targetAddressAnswer .a true]
def readAsked : State := run [.start, .addressByte 0x22 true, .targetAddressAnswer .a true, .readByteClocked .a 7]
/-- The first byte ACKed by the upstream master, and the second one ready. -/
def readClocked : State := after readAsked [.readDataAck true, .readByteClocked .a 8]
def heldRead : State := after readAsked [.readDataAck false, .repeatedStart]
def tail : State := run [.start, .addressByte 0x22 false, .targetAddressAnswer .a true, .stop]
/-- A read of slot 2 deferred behind the owed outcome, and a compound read of slot 0 deferred in the same way. -/
def deferred : State := after tail [.start, .addressByte 0x22 true]
def deferredCompound : State := after tail [.start, .addressByte 0x20 false, .postedFillByte 1, .repeatedStart,
    .addressByte 0x20 true]
/-- A compound read of slot 0: waiting behind another master, and granted. -/
def compoundWaits : State := run [.externalStart .a, .start, .addressByte 0x20 false, .postedFillByte 1, .repeatedStart,
  .addressByte 0x20 true]
def compoundOut : State := run [.start, .addressByte 0x20 false, .postedFillByte 1, .repeatedStart,
    .addressByte 0x20 true]
def tenFirst : State := run [.start, .tenBitFirstByte 0]

/-- The port of a running part in a state, stretching or not. -/
def portIn (s : State) (p : PortState) (stretching : Bool) : Bool :=
  !s.inReset && s.port.state = p && s.port.stretch.isSome == stretching

theorem test_Start_met : portIn ready .idle false = true ∧ portIn granted .address true = true
    ∧ portIn (run [.start, .addressByte 0x5C true]) .mgmtRead false = true
    ∧ portIn (run [.start, .addressByte 0x30 true]) .notAddressed false = true
    ∧ portIn (writing [1, 1]) .mgmtWrite false = true ∧ (writing [1, 1]).runWrite.port.state = .mgmtWrite
    ∧ portIn addressed .address false = true ∧ portIn tenFirst .tenFirst false = true
    ∧ portIn filling .postedFill false = true ∧ filling.port.hand = some 0
    ∧ portIn writingCt .routedCt false = true ∧ writingCt.port.hand = some 2 ∧ writingCt.txn.isSome = true
    ∧ portIn reading .routedRead true = true ∧ reading.port.hand = some 2 ∧ reading.txn.isSome = true
    ∧ portIn readAsked .routedRead false = true ∧ readAsked.port.firstByte = true
    ∧ portIn readClocked .routedRead false = true ∧ readClocked.port.firstByte = false
    ∧ readClocked.port.hand = some 2 ∧ readClocked.txn.isSome = true := by decide +kernel

theorem test_Stop_met : portIn heldFill .address false = true ∧ heldFill.port.held = some { slot := 0, kind := .fill }
    ∧ portIn heldCt .address false = true ∧ heldCt.port.held = some { slot := 2, kind := .ct }
    ∧ heldCt.txn.isSome = true
    ∧ portIn heldRead .address false = true ∧ heldRead.port.held = some { slot := 2, kind := .read }
    ∧ heldRead.txn.isSome = true
    ∧ addressed.port.held = none ∧ tenFirst.port.held = none := by decide +kernel

theorem test_Abandonment_met : portIn ready .idle false = true
    ∧ portIn (run [.start, .addressByte 0x30 true]) .notAddressed false = true ∧ portIn waiting .address true = true
    ∧ portIn (writing [1]) .mgmtWrite false = true ∧ (writing [1]).port.held = none ∧ filling.fill.isSome = true
    ∧ heldFill.fill.isSome = true ∧ portIn writingCt .routedCt false = true ∧ writingCt.txn.isSome = true
    ∧ ready.port.low = none ∧ waiting.port.low = none ∧ (writing [1]).port.low = some 0 ∧ filling.port.low = some 0
    ∧ heldFill.port.low = some 0 ∧ writingCt.port.low = some 0 ∧ heldCt.port.low = some 0 ∧ readAsked.port.low = some 0
    ∧ ((after heldFill [.upstreamLowTimeout]).att.device.flags = 9 ∧ (after heldFill [.upstreamLowTimeout]).fill = none)
    := by decide +kernel

theorem test_HoldLimit_met : ready.port.stretch = none
    ∧ (deferred.port.wait.any fun w => w.deferred && !w.compound && (deferred.slot w.slot).cur.isSome) = true
    ∧ deferred.port.stretch.isSome = true ∧ deferred.txn.isSome = true ∧ deferred.port.state ≠ .routedRead
    ∧ (deferredCompound.port.wait.any fun w => w.deferred && w.compound) = true ∧ deferredCompound.fill.isSome = true
    ∧ deferredCompound.txn.isSome = true ∧ deferredCompound.port.stretch.isSome = true
    ∧ (waiting.port.wait.any fun w => !w.deferred) = true
    ∧ (waiting.txn.any fun t => t.stage = .waiting && t.frame.isNone) = true ∧ waiting.port.stretch.isSome = true
    ∧ (compoundWaits.txn.any fun t => t.stage = .waiting && t.frame.isSome) = true ∧ compoundWaits.fill.isSome = true
    ∧ compoundWaits.port.stretch.isSome = true ∧ (compoundWaits.port.wait.any fun w => !w.deferred) = true
    ∧ (granted.txn.any fun t => t.stage ≠ .waiting) = true ∧ (granted.port.wait.any fun w => !w.deferred) = true
    ∧ reading.port.wait = none ∧ reading.port.state = .routedRead ∧ reading.port.stretch.isSome = true
    ∧ (let s := after writingCt [.cutThroughDataByte 5]
       s.port.wait = none ∧ s.port.state ≠ .routedRead ∧ s.port.stretch.isSome = true ∧ s.txn.isSome = true) := by
  decide +kernel

theorem test_AddressByte_met : portIn addressed .address false = true ∧ addressed.port.wait = none
    ∧ 0x5C ≤ addressed.mgmtAddr ∧ addressed.mgmtAddr ≤ 0x5F ∧ SlotShapes addressed ∧ ClaimsDistinct addressed
    ∧ (∀ i, (addressed.slot i).cur.all (fun r => r.key ≠ { form := .seven, addr := (0x77 : Addr7).setWidth 10 }) = true)
    ∧ (∀ i, (addressed.slot i).cur.all (fun r => r.key ≠ { form := .seven, addr := (0x08 : Addr7).setWidth 10 }) = true)
    ∧ (addressed.slot 0).cur.any (fun r => r.key = { form := .seven, addr := (0x20 : Addr7).setWidth 10 }) = true := by
  refine ⟨by decide +kernel, by decide +kernel, by decide +kernel, by decide +kernel, shapes_of (by decide +kernel),
    claims_of (by decide +kernel), by decide +kernel⟩

theorem test_AddressByte_edges :
    ((after addressed [.addressByte 0x07 true]).port.out, (after addressed [.addressByte 0x7C true]).port.out,
      (after addressed [.addressByte 0x7F false]).port.out, (after addressed [.addressByte 0x5C false]).port.out,
      (after addressed [.addressByte 0x5D false]).port.out, (after addressed [.addressByte 0x78 false]).port.out,
      (after addressed [.addressByte 0x7B false]).port.out)
      = (.nack, .nack, .nack, .ack, .nack, .ack, .nack) := by decide +kernel

/-- A 10-bit write to slot 3 that the target ACKed, then a repeated START: the memory names slot 3. -/
def tenRemembered : State := run [.start, .tenBitFirstByte 0, .tenBitSecondByte 0x20, .targetAddressAnswer .a true,
    .repeatedStart]

theorem test_TenBit_met : portIn addressed .address false = true ∧ SlotShapes addressed
    ∧ (addressed.slot 3).cur.any (fun r => r.key.form = .ten ∧ r.key.addr.toNat / 256 = 0) = true
    ∧ (∀ i, (addressed.slot i).cur.all (fun r => !(r.key.form = .ten && r.key.addr.toNat / 256 = 3)) = true)
    ∧ portIn tenFirst .tenFirst false = true ∧ ClaimsDistinct tenFirst ∧ SlotShapes tenFirst
    ∧ (∀ i, (tenFirst.slot i).cur.all (fun r => r.key ≠ tenKey 0 0xFF) = true)
    ∧ (tenFirst.slot 3).cur.any (fun r => r.key = tenKey 0 0x20 ∧ r.access ≠ .readOnly) = true
    ∧ (let s := run [.start, .tenBitFirstByte 1]
       (s.slot 5).cur.any (fun r => r.key = tenKey 1 0x21 ∧ r.access = .readOnly) = true ∧ s.port.held = none
         ∧ (after s [.tenBitSecondByte 0x21]).port.ten = some { slot := 5, upper := 1 })
    ∧ tenRemembered.port.ten = some { slot := 3, upper := 0 } ∧ tenRemembered.port.repeated = true
    ∧ tenRemembered.port.state = .address ∧ tenRemembered.port.wait = none
    ∧ (after tenFirst [.repeatedStart]).port.ten = none := by
  refine ⟨by decide +kernel, shapes_of (by decide +kernel), by decide +kernel, by decide +kernel, by decide +kernel,
    claims_of (by decide +kernel), shapes_of (by decide +kernel), by decide +kernel⟩

/-- RoutedPhaseDecision: a LIVE slot without a held phase; the decision needs no more. The pool empty,
    the queue full. -/
theorem test_RoutedPhase_met : (ready.slot 0).cur.isSome = true ∧ ready.port.held = none
    ∧ (after addressed [.addressByte 0x20 false]).port.out = .ack
    ∧ (after addressed [.addressByte 0x22 true]).port.wait.isSome = true
    ∧ (after deferredCompound [.holdLimitExpiry]).fill = none
    ∧ ((run [.routeHold 1 none 0, .start, .addressByte 0x20 false]).slotOwner 0).flags = 0x0200
    ∧ ((run [.start, .tenBitFirstByte 1, .tenBitSecondByte 0x21, .repeatedStart,
        .tenBitReadForm 1]).port.wait.isSome = true)
    ∧ ((run [.segmentLowTimeout .a, .start, .addressByte 0x22 true]).slotOwner 2).flags = 0x0400 := by decide +kernel

theorem test_HeldPhase_met : heldFill.port.held = some { slot := 0, kind := .fill } ∧ (heldCt.slot 2).cur.isSome = true
    ∧ heldCt.txn.isSome = true ∧ heldCt.port.held = some { slot := 2, kind := .ct }
    ∧ heldRead.port.held = some { slot := 2, kind := .read }
    ∧ (heldRead.slot 2).cur.any (fun r => r.mode = .cutThrough) = true
    ∧ ((after compoundOut [.frameOutByteAnswer .a true, .frameOutByteAnswer .a true, .targetAddressAnswer .a true,
        .readByteClocked .a 1, .readDataAck false, .repeatedStart]).port.held = some { slot := 0, kind := .read })
    ∧ (heldFill.slot 0).cur.any (fun r => r.mode = .posted) = true := by decide +kernel

theorem test_CompoundRead_met : heldFill.port.held = some { slot := 0, kind := .fill } ∧ heldFill.fill.isSome = true
    ∧ (heldFill.slot 0).cur.any (fun r => r.check = .off) = true
    ∧ ((run [.start, .addressByte 0x21 false, .postedFillByte 1, .repeatedStart,
        .addressByte 0x21 true]).slotOwner 1).flags = 0x20
    ∧ ((after (run [.start, .addressByte 0x20 false]) (List.replicate 4 (.postedFillByte 1) ++ [.repeatedStart,
        .addressByte 0x20 true])).slotOwner 0).flags
        = 0x10 := by decide +kernel

theorem test_PostedFill_met : portIn filling .postedFill false = true ∧ ready.port.state ≠ .postedFill
    ∧ (filling.fill.any fun p => (filling.frame p.frame).owner = some 0) = true
    ∧ (filling.slot 0).cur.any (fun r => r.maxLen = 3) = true
    ∧ (after filling (List.replicate 3 (.postedFillByte 1))).port.out = .ack
    ∧ (after filling (List.replicate 4 (.postedFillByte 1))).port.out = .nack
    ∧ (after (run [.start, .addressByte 0x21 false]) (List.replicate 4 (.postedFillByte 1))).port.out = .ack
    ∧ (after (run [.start, .addressByte 0x21 false]) (List.replicate 5 (.postedFillByte 1))).port.out = .nack := by
  decide +kernel

theorem test_Relayed_met : portIn writingCt .routedCt false = true
    ∧ (writingCt.txn.any fun t => t.slot = 2 && !t.phaseRefused) = true
    ∧ (let s := after writingCt [.cutThroughDataByte 5, .cutThroughByteAnswer .a false]
       (s.txn.any fun t => t.phaseRefused) = true ∧ portIn s .routedCt false = true)
    ∧ (let s := after writingCt [.cutThroughDataByte 5, .cutThroughByteAnswer .a true, .cutThroughDataByte 5,
        .cutThroughByteAnswer .a true]
       (s.txn.any fun t => t.count = 2) = true ∧ (s.slot 2).cur.any (fun r => r.maxLen = 2) = true)
    ∧ portIn readAsked .routedRead false = true ∧ ((readAsked.seg .a).down.any fun d => d.pos = .readAck) = true
    ∧ readAsked.txn.isSome = true ∧ waiting.txn.isSome = true ∧ waiting.port.stretch.isSome = true := by decide +kernel

/-! #### The segments -/

/-- What stands on segment A. -/
def onA (s : State) (work : Work) (pos : LinePos) (after : After) (detached : Bool) : Bool :=
  !s.inReset && (s.seg .a).down.any fun d => d.work = work && d.pos = pos && d.after = after && d.detached == detached

def delivering : State := run [.start, .addressByte 0x20 false, .postedFillByte 7, .stop]
/-- Segment A with an alert-identify address and its alert line low: an identify read. -/
def identifying : State := run [.segmentConfig 1 none 0 1 0 30 1 0x0C, .segmentAlertFall .a]

/-- R88: before the first byte is clocked a STOP has no effect and the upstream low limit ends the read with ABORTED;
after an ACK, with the next byte ready, a STOP ends it with COMPLETE. -/
theorem test_read_ends : (after readAsked [.stop]) = readAsked ∧ (after reading [.repeatedStart]) = reading
    ∧ (after readAsked [.upstreamLowTimeout]).txn.any (fun t => t.taken = some { kind := .aborted, final := true }) = true
    ∧ (after readClocked [.stop]).txn.any (fun t => t.taken = some { kind := .complete, final := false }) = true
    ∧ onA (after readClocked [.stop]) (.routed false) .stop .stop false = true := by decide +kernel

theorem test_RoutedAnswers_met : onA granted (.routed false) .addr .goOn false = true
    ∧ (granted.txn.any fun t => t.stage = .address) = true
    ∧ onA (after granted [.holdLimitExpiry]) (.routed false) .addr .stop false = true
    ∧ onA (after writingCt [.cutThroughDataByte 5]) (.routed false) .byte .goOn false = true
    ∧ (after writingCt [.cutThroughDataByte 5]).txn.any (fun t => t.stage = .write) = true
    ∧ onA (after writingCt [.cutThroughDataByte 5, .holdLimitExpiry]) (.routed false) .byte .stop false = true
    ∧ onA reading (.routed false) .readByte .goOn false = true ∧ reading.txn.any (fun t => t.stage = .read) = true
    ∧ onA (after reading [.holdLimitExpiry]) (.routed false) .readByte .stop false = true
    ∧ (let s := { reading with txn := reading.txn.map fun t => { t with stage := .paused } }
       onA s (.routed false) .readByte .goOn false = true ∧ s.txn.any (fun t => t.stage ≠ .read) = true
         ∧ onA (s.mapDown .a fun d => { d with after := .restart true }) (.routed false) .readByte (.restart true) false
             = true) := by
  decide +kernel

/-- A routed transaction that a soft reset detached, at each place where an answer or a byte can still come. -/
theorem test_RoutedAnswers_detached_met :
    (let ended := fun (s : State) => after s [.holdLimitExpiry, .stop, .softResetRoutes 1 none]
     onA (ended granted) (.routed false) .addr .stop true = true ∧ (ended granted).txn = none
       ∧ onA (ended (after writingCt [.cutThroughDataByte 5])) (.routed false) .byte .stop true = true
       ∧ onA (ended reading) (.routed false) .readByte .stop true = true
       ∧ onA (ended compoundOut) (.routed true) .addr .stop true = true
       ∧ onA (ended (after compoundOut [.frameOutByteAnswer .a true])) (.routed true) .byte .stop true = true
       ∧ ((after (ended compoundOut) [.frameOutByteAnswer .a true, .segmentStopComplete .a]).seg .a).state = .idle
       ∧ ((after (ended compoundOut) [.frameOutByteAnswer .a true]).seg .a).presenceOf 0x40 = .present) := by
  decide +kernel

theorem test_CompoundFrame_met : onA compoundOut (.routed true) .addr .goOn false = true
    ∧ compoundOut.fill.isSome = true
    ∧ (compoundOut.txn.any fun t => t.frame.isSome && t.stage = .frameOut) = true
    ∧ (let s := after compoundOut [.frameOutByteAnswer .a true]
       onA s (.routed true) .byte .goOn false = true ∧ ((s.seg .a).down.any fun d => d.left = []) = true)
    ∧ (let s := after compoundOut [.holdLimitExpiry]
       onA s (.routed true) .addr .stop false = true ∧ (s.txn.any fun t => t.stage = .tail && t.frame.isSome) = true
         ∧ s.fill.isSome = true) := by decide +kernel

theorem test_OtherTransactions_met : onA delivering (.delivery 0 none false) .addr .goOn false = true
    ∧ onA (after delivering [.deliveryAddressAnswer .a true]) (.delivery 0 none false) .byte .goOn false = true
    ∧ onA (after delivering [.segmentClear 1 none 0]) (.delivery 0 (some .aborted) false) .addr .stop false = true
    ∧ ((after delivering [.deliveryAddressAnswer .a true]).seg .a).down.any (fun d => d.left = []) = true
    ∧ onA probing (.probe true) .addr .goOn false = true ∧ (probing.seg .a).cursor = some 0x08
    ∧ onA (after probing [.discoverCancel 1 none 0]) (.probe false) .addr .goOn false = true
    ∧ onA identifying (.identify none none) .addr .goOn false = true
    ∧ onA (after identifying [.identifyAddressAnswer .a true]) (.identify (some true) none) .readByte .goOn false = true
    ∧ onA (after identifying [.segmentClear 1 none 0]) (.identify none none) .addr .stop false = true := by decide +kernel

/-- The last probe of a sweep, with slot 3 quarantined: the cursor at 77h and a probe of it on the lines. -/
def lastProbe : State :=
  let s := quarantined
  { s with segs := s.segs.set .a { s.seg .a with
      state := .owned, cursor := some 0x77, presence := (s.seg .a).presence.set 59 .present,
          down := some (.begin (.probe true) 0x77 false []) } }

theorem test_last_probe_completes : onA lastProbe (.probe true) .addr .goOn false = true
    ∧ ((after lastProbe [.probeAnswer .a true]).seg .a).cursor = none
    ∧ ((after lastProbe [.probeAnswer .a true]).segOwner .a).flags = 0x10
    ∧ ((after lastProbe [.probeAnswer .a true]).slot 3).state = .quarantined
    ∧ ((after (lastProbe.setSlot 2 { lastProbe.slot 2 with state := .quarantined }) [.probeAnswer .a true]).slot 2).state
        = .quarantined
    ∧ ((after ((lastProbe.setSlot 2 { lastProbe.slot 2 with state := .quarantined }).setSeg .a
        { lastProbe.seg .a with presence := (lastProbe.seg .a).presence.set 58 .present }) [.probeAnswer .a true]).slot 2).state
        = .live := by decide +kernel

theorem test_StopComplete_met : onA tail (.routed false) .stop .stop false = true ∧ (tail.seg .a).state = .owned
    ∧ ((after tail [.segmentClear 1 none 0]).seg .a).down.any (fun d => d.clear && d.pos = .stop) = true
    ∧ (after delivering [.deliveryAddressAnswer .a false]).txn = none
    ∧ onA (after delivering [.deliveryAddressAnswer .a false]) (.delivery 0 (some .targetNack) false) .stop .stop false = true
    ∧ onA (after identifying [.identifyAddressAnswer .a false]) (.identify (some false) none) .stop .stop false = true
    ∧ (let s := after tail [.softResetAll 1 none]
       (s.seg .a).state = .disabled ∧ (s.seg .a).down.any (fun d => d.pos = .stop && d.detached) = true
         ∧ ((after s [.segmentConfig 1 none 0 1 0 30 1 0]).seg .a).state = .external)
    ∧ ((after tail [.segmentConfig 1 none 0 0 0 30 1 0]).seg .a).next.isSome = true ∧ (tail.seg .a).next = none := by
  decide +kernel

/-- R86: the outcome is reported when the segment has left OWNED and taken in a held disable, so a deferred address phase
is refused with SEGMENT_DOWN and not by a withdrawn claim. -/
theorem test_deferred_meets_held_disable :
    let s := after tail [.segmentConfig 1 none 0 0 0 30 1 0, .start, .addressByte 0x22 true]
    (s.port.wait.any fun w => w.deferred) = true ∧ ((s.seg .a).next.any fun c => !c.enable) = true
      ∧ (let t := after s [.segmentStopComplete .a]
         (t.seg .a).state = .disabled ∧ (t.slotOwner 2).flags = 0x0400 ∧ t.port.out = .nack ∧ t.txn = none
           ∧ (t.slot 2).completed = 1) := by decide +kernel

/-- Segment A owned by this transaction at this place, with this head loss count. -/
def losing (s : State) (work : Work) (pos : LinePos) (headLoss : Nat) : Bool :=
  onA s work pos .goOn false && (s.seg .a).state = .owned && (s.seg .a).headLoss == headLoss

theorem test_ArbitrationLoss_met : losing granted (.routed false) .addr 0 = true
    ∧ (granted.seg .a).claim.any (fun c => c.loss < (granted.seg .a).cfg.retry) = true
    ∧ ((granted.seg .a).down.any fun d => d.first) = true
    ∧ (let s := after granted [.arbitrationLoss .a, .busFreeTime .a]
       losing s (.routed false) .addr 0 = true ∧ (s.seg .a).claim.any (fun c => c.loss = (s.seg .a).cfg.retry) = true
         ∧ s.txn.any (fun t => t.stage = .address && t.frame.isNone && t.taken.isNone) = true
         ∧ s.port.state ≠ .routedRead)
    ∧ losing (after writingCt [.cutThroughDataByte 5]) (.routed false) .byte 0 = true
    ∧ losing compoundOut (.routed true) .addr 0 = true
    ∧ losing delivering (.delivery 0 none false) .addr 0 = true ∧ (delivering.frame 0).owner = some 0
    ∧ losing (after delivering [.arbitrationLoss .a, .busFreeTime .a]) (.delivery 0 none false) .addr 1 = true
    ∧ losing (after delivering [.deliveryAddressAnswer .a true]) (.delivery 0 none false) .byte 0 = true
    ∧ losing probing (.probe true) .addr 0 = true ∧ losing identifying (.identify none none) .addr 0 = true
    ∧ onA (after delivering [.segmentClear 1 none 0]) (.delivery 0 (some .aborted) false) .addr .stop false = true
    ∧ (let s := after granted [.holdLimitExpiry]
       onA s (.routed false) .addr .stop false = true ∧ s.txn.any (fun t => t.stage = .tail && t.frame.isNone) = true)
    ∧ onA (after granted [.stop, .holdLimitExpiry, .stop,
        .softResetRoutes 1 none]) (.routed false) .addr .stop true = true := by
  decide +kernel

/-- R92: a compound frame lost to arbitration at a data byte, at the address byte with the retries used up, and in TAIL,
and to the low limit; and a delivery that SEGMENT_CLEAR gave ABORTED and that then meets the low limit (log entry 17). -/
theorem test_compound_frame_lost :
    let lost := fun (s : State) (kind : Nat) => s.txn = none ∧ s.fill = none ∧ (s.slotOwner 0).flags = 0x0040
      ∧ (s.segOwner .a).flags.toNat = kind
    let again := after compoundOut [.arbitrationLoss .a, .busFreeTime .a]
    losing (after compoundOut [.frameOutByteAnswer .a true]) (.routed true) .byte 0 = true
      ∧ lost (after compoundOut [.frameOutByteAnswer .a true, .arbitrationLoss .a]) 8
      ∧ (again.seg .a).claim.any (fun c => c.loss = (again.seg .a).cfg.retry) = true
      ∧ lost (after again [.arbitrationLoss .a]) 8
      ∧ (let s := after compoundOut [.holdLimitExpiry]
         s.txn.any (fun t => t.stage = .tail && t.frame.isSome) = true
           ∧ ((after s [.arbitrationLoss .a]).slotOwner 0).flags = 0x0044 ∧ (after s [.arbitrationLoss .a]).fill = none)
      ∧ ((after compoundOut [.segmentLowTimeout .a]).slotOwner 0).flags = 0x0042
      ∧ (after compoundOut [.segmentLowTimeout .a]).fill = none
      ∧ (let s := after delivering [.segmentClear 1 none 0]
         (s.seg .a).down.any (fun d => d.clear) = true ∧ ((after s [.segmentLowTimeout .a]).slotOwner 0).flags = 0x0040
           ∧ ((after s [.segmentLowTimeout .a]).slot 0).faults = 0)
      ∧ heldCt.txn.any (fun t => t.stage = .paused) = true := by
  decide +kernel

theorem test_LowLimit_met : (ready.seg .a).state = .idle ∧ (ready.seg .a).down = none ∧ (ready.seg .c).state = .disabled
    ∧ ((run [.externalStart .a]).seg .a).state = .external
    ∧ ((writingCt.seg .a).down.any fun d => d.pos = .boundary) = true ∧ (writingCt.seg .a).state = .owned
    ∧ losing granted (.routed false) .addr 0 = true ∧ losing delivering (.delivery 0 none false) .addr 0 = true
    ∧ losing probing (.probe true) .addr 0 = true ∧ losing identifying (.identify none none) .addr 0 = true
    ∧ (granted.txn.any fun t => t.frame.isNone) = true ∧ (recovering.seg .a).state = .recovering
    ∧ (recovering.seg .a).pulses = 0 ∧ (recovering.seg .a).attempt = 1 ∧ (recovering.seg .a).next = none
    ∧ (let s := after recovering (List.replicate 8 (.recoveryPulse .a false false))
       (s.seg .a).pulses = 8 ∧ (s.seg .a).attempt = 1
         ∧ ((after s [.recoveryPulse .a true false]).seg .a).attempt = 2)
    ∧ (let s := after recovering (List.replicate 26 (.recoveryPulse .a false true))
       (s.seg .a).pulses = 8 ∧ (s.seg .a).attempt = 3
         ∧ ((after s [.recoveryPulse .a false true]).seg .a).state = .faulted)
    ∧ ((after recovering [.recoveryPulse .a true true]).seg .a).state = .external
    ∧ ((after recovering [.segmentConfig 1 none 0 0 0 30 1 0]).seg .a).next.isSome = true := by decide +kernel

theorem test_SegmentLines_met : ready.inReset = false
    ∧ ((run [.externalStart .a]).seg .a).state = .external ∧ ((run [.externalStart .a]).seg .a).down = none
    ∧ ((run [.externalStart .a, .externalStop .a]).seg .a).state = .idle
    ∧ (let x := (after State.reset [.segmentConfig 7 none 0 1 0 30 1 0, .externalStart .a]).seg .a
       x.state = .external ∧ x.busFree = none ∧ x.low = some 0)
    ∧ ((run [.segmentAlertFall .a]).seg .a).alertLow = true
    ∧ ((run [.segmentAlertFall .a, .segmentAlertRise .a]).seg .a).alertLow = false := by decide +kernel

/-- ArbiterGrantsInOrder: IDLE with a cursor and fairness 4 and below, a claim, an identify claim, a queue, nothing. -/
theorem test_Arbiter_met : (ready.seg .a).state = .idle ∧ (ready.seg .a).down = none ∧ (ready.seg .a).claim = none
    ∧ (ready.seg .a).queue = [] ∧ (ready.seg .a).cursor = none
    ∧ (let s := delivering.setSeg .a { delivering.seg .a with state := .idle, down := none }
       (s.seg .a).queue = [0] ∧ (s.frame 0).owner = some 0
         ∧ ((s.setSeg .a { s.seg .a with cursor := some 8, fair := 4 }).arbitrate .a |>.seg .a).down.any
             (fun d => d.work = .probe true) = true
         ∧ ((s.setSeg .a { s.seg .a with cursor := some 8, fair := 3 }).arbitrate .a |>.seg .a).fair = 4)
    ∧ (let s := waiting
       (s.seg .a).claim.any (fun c => c.slot = 2 && s.queued c.slot == 0) = true) := by decide +kernel

/-- R91: a compound frame with no data bytes, on a VERIFY_REGEN route, is its write address byte alone. -/
theorem test_empty_compound_frame :
    let s := run [.start, .addressByte 0x21 false, .postedFillByte (crc8 [0x42]), .repeatedStart, .addressByte 0x21 true]
    onA s (.routed true) .addr .goOn false = true ∧ (s.seg .a).down.any (fun d => d.left = []) = true
      ∧ s.frame 0 = { Frame.empty with owner := some 1, verified := true }
      ∧ onA (after s [.frameOutByteAnswer .a true]) (.routed false) .addr .goOn false = true
      ∧ (after s [.frameOutByteAnswer .a true]).fill = none := by decide +kernel

theorem test_Identify_met : SlotShapes identifying ∧ ClaimsDistinct identifying
    ∧ (identifying.slot 2).cur.any (fun r => r.seg = .a ∧ r.target.toNat = (0x85 : Byte).toNat / 2) = true
    ∧ (let s := after identifying [.identifyAddressAnswer .a true, .identifyDataByte .a 0x85, .segmentStopComplete .a]
       (s.slotOwner 2).flags = 0x0800 ∧ (s.seg .a).idCount = 1)
    ∧ (let s := after identifying [.identifyAddressAnswer .a true, .identifyDataByte .a 0xA0, .segmentStopComplete .a]
       (s.segOwner .a).flags = 0x40 ∧ s.att.unrouted.get .a = some 0x50) := by
  refine ⟨shapes_of (by decide +kernel), claims_of (by decide +kernel), by decide +kernel⟩

theorem test_EndsOfWork_met : (delivering.frame 0).owner = some 0
    ∧ (waiting.txn.any fun t => t.stage = .waiting && t.seg = .a && t.frame.isNone) = true
    ∧ (compoundWaits.txn.any fun t => t.stage = .waiting && t.seg = .a && t.frame.isSome) = true
    ∧ compoundWaits.fill.isSome = true
    ∧ (let s := { deferred with txn := none }
       s.port.wait.any (fun w => w.deferred && (s.slot w.slot).cur.isSome) = true)
    ∧ (after deferred [.segmentStopComplete .a]).txn.any (fun t => t.stage = .address) = true
    ∧ (after deferredCompound [.routeHold 1 none 0]).txn.isSome = true := by decide +kernel

theorem test_Outcomes_met : (ready.slot 2).cur.isSome = true ∧ (ready.slot 2).faults = 0
    ∧ (quarantined.slot 3).cur.any (fun r => r.faultLimit = (quarantined.slot 3).faults) = true
    ∧ (retiring.slot 0).state = .draining ∧ (retiring.slot 0).pend = none ∧ retiring.marker 0 = .delivery
    ∧ (pendingRetire.slot 2).pend = some (.retire .drain) ∧ pendingRetire.marker 2 = .routed
    ∧ ({ pendingRetire with txn := none }).marker 2 = .none ∧ ({ pendingRetire with txn := none }).queued 2 = 0
    ∧ (after retiring [.deliveryAddressAnswer .a true, .deliveryByteAnswer .a true,
        .segmentStopComplete .a]).slot 0 = Slot.free
    ∧ ((after retiring [.deliveryAddressAnswer .a true, .deliveryByteAnswer .a true,
        .segmentStopComplete .a]).slotOwner 0).flags
        = 0x4000 := by decide +kernel

/-- A fault that quarantines slot 0: its two queued frames are lost, that of slot 4 stays. -/
theorem test_Outcomes_quarantine :
    let s := (queuedThree .stop).setSlot 0 { (queuedThree .stop).slot 0 with faults := 1 }
    (s.slot 0).cur.any (fun r => r.faultLimit = 2) = true ∧ (s.slot 0).state = .live ∧ s.queued 0 = 2
      ∧ ((s.count 0 .a .targetNack).slot 0).state = .quarantined ∧ ((s.count 0 .a .targetNack).seg .a).queue = [1]
      ∧ ((s.count 0 .a .targetNack).slotOwner 0).flags = 0x1041 := by decide +kernel

/-- The frame of an EDIT_STAGE of a CREATE with its check byte is within the assembly buffer. -/
theorem test_frame_fits : ∀ b, (Instr.editStage 1 (some 0) 1 0 1 [0x10, 0, 0x20, 0, 0x40, 3,
    2]).frame? = some b → b.length ≤ 24 :=
  Laws.FrameFits.editStage 1 (some 0) 1 0 1 [0x10, 0, 0x20, 0, 0x40, 3, 2] rfl

end Sys2Proof.Tests
end

section
/-! PROOF. Routed transactions: SEGMENT_CLEAR, compound reads, the relayed bytes of the upstream master, the answers in a
compound frame, and the arbiter. First the operations that these share, each said once in the words of the statements
(Safety.lean); then a part for each statement. -/

namespace Sys2Proof.RoutedTransactions

open Sys2Proof Sys2Proof.Machine Sys2Proof.Safety

/-! ### Writes of one segment -/

@[simp] theorem setSeg_setSeg (s : State) (g : Seg) (x y : Segment) : (s.setSeg g x).setSeg g y = s.setSeg g y := by
  cases g <;> rfl

/-! ### The lines of a segment (R135) -/

theorem holdsScl_iff (d : Down) : d.holdsScl = true ↔ d.pos = .boundary ∨ d.pos = .readAck := by
  simp [Down.holdsScl]

theorem withDown_eq_onLines (x : Segment) (d : Down) : x.withDown d = onLines x d := by
  by_cases owned : x.state = .owned <;> simp [Segment.withDown, onLines, owned, holdsScl_iff]

theorem mapDown_eq_redriven (x : Segment) (f : Down → Down) : x.mapDown f = redriven x f := by
  unfold Segment.mapDown redriven
  cases x.down with
  | none => simp
  | some d => cases low : x.low <;> simp [holdsScl_iff]

theorem setDown_eq_onLines (s : State) (g : Seg) (d : Down) : s.setDown g d = s.setSeg g (onLines (s.seg g) d) := by
  rw [State.setDown, withDown_eq_onLines]

theorem mapDown_eq_setSeg (s : State) (g : Seg) (f : Down → Down) :
    s.mapDown g f = s.setSeg g (redriven (s.seg g) f) := by
  rw [State.mapDown, mapDown_eq_redriven]

/-! ### The upstream port (R65, R70, R73) -/

theorem lowTimerRuns_iff (p : Port) :
    p.lowTimerRuns = true ↔ ¬ (p.state = .idle ∨ p.state = .notAddressed ∨ p.stretch.isSome) := by
  simp [Port.lowTimerRuns, and_assoc]

theorem waitIsTen_eq (p : Port) : p.waitIsTen = (p.wait.bind Wait.ten).isSome := by
  cases h : p.wait <;> simp [Port.waitIsTen, h]

/-! ### Ends of the upstream side (R86, R94) -/

theorem endUpstream_eq (s : State) (t : Txn) (take : Txn → Txn) (current : s.txn = some t) :
    s.endUpstream take = { s.setSeg t.seg (redriven (s.seg t.seg) Down.endAtBoundary) with
      txn := some { take t with stage := .tail } } := by
  simp only [State.endUpstream, current, State.endDownAtBoundary, mapDown_eq_setSeg]
  rfl

/-- A final outcome keeps one that is final already (R94). -/
theorem takeFinal_eq (t : Txn) (k : OutcomeKind) :
    t.takeFinal k = { t with
      taken := if t.taken.any Taken.final then t.taken else some { kind := k, final := true } } := by
  by_cases final : t.taken.any Taken.final = true <;> simp [Txn.takeFinal, final]

/-- So does a normal end, whose own outcome is provisional (R94). -/
theorem takeNormal_eq (t : Txn) :
    t.takeNormal = { t with
      taken := if t.taken.any Taken.final then t.taken
        else some { kind := if t.refused then .writeRefused else .complete, final := false } } := by
  by_cases final : t.taken.any Taken.final = true <;> simp [Txn.takeNormal, final]

theorem endUpstream_takeFinal (s : State) (t : Txn) (k : OutcomeKind) (current : s.txn = some t) :
    s.endUpstream (fun t => t.takeFinal k) = endedWith s t k true := by
  rw [endUpstream_eq s t _ current]
  simp only [takeFinal_eq]
  rfl

/-! ### The rows that run on the part out of device reset -/

theorem running_eq (s : State) (event : State → State) (running : s.inReset = false) : s.running event = event s := by
  simp [State.running, running]

/-! ### The fill position and the checks of a routed address (R61, R98, R106) -/

theorem releaseFill_eq (s : State) (p : Fill) (filled : s.fill = some p) : s.releaseFill = fillReturned s p := by
  simp only [State.releaseFill, filled]
  rfl

theorem inService_iff (x : SegState) : x.inService = true ↔ x = .idle ∨ x = .external ∨ x = .owned := by
  cases x <;> simp [SegState.inService]

theorem access_refused_iff (a : Access) (read : Bool) :
    (if read then a = .writeOnly else a = .readOnly) ↔ a = if read then Access.writeOnly else .readOnly := by
  cases read <;> simp

theorem addressCheck_eq_routedCheck (s : State) (i : SlotId) (r : RouteRecord) (read : Bool)
    (cur : (s.slot i).cur = some r) : s.addressCheck i read = routedCheck s i r read := by
  have live : ((s.slot i).state ≠ .live ∨ (s.slot i).pend.isSome) ↔
      ¬ ((s.slot i).state = .live ∧ (s.slot i).pend = none) := by
    cases (s.slot i).pend <;> simp
  simp only [State.addressCheck, cur, live, access_refused_iff, inService_iff, routedCheck]

/-- The check byte taken off a frame that may have one, or the frame refused (R106). -/
theorem verifyBytes_eq (r : RouteRecord) (bytes : List Byte) :
    r.verifyBytes bytes =
      if r.check ≠ .off ∧ bytes.getLast? ≠ some (crc8 (r.key.writeBytes ++ bytes.dropLast)) then none
      else some (if r.check = .off then bytes else bytes.dropLast, decide (r.check ≠ .off)) := by
  by_cases off : r.check = .off
  · simp [RouteRecord.verifyBytes, off]
  · cases last : bytes.getLast? with
    | none => simp [RouteRecord.verifyBytes, off, last]
    | some c =>
      by_cases right : crc8 (r.key.writeBytes ++ bytes.dropLast) = c
      · simp [RouteRecord.verifyBytes, off, last, right]
      · simp [RouteRecord.verifyBytes, off, last, right, Ne.symm right]

/-! ### A withheld acknowledge (R62, R63, R90) -/

theorem placeClaim_eq (s : State) (w : Wait) (r : RouteRecord) (cur : (s.slot w.slot).cur = some r) :
    s.placeClaim w =
      ({ s.setSeg r.seg { s.seg r.seg with claim := some { slot := w.slot, read := w.read, loss := 0 } } with
        port := { s.port with hand := some w.slot, wait := some { w with deferred := false } }
        txn := some { slot := w.slot, seg := r.seg, stage := .waiting, answered := false, refused := false,
                      phaseRefused := false, count := 0, taken := none,
                      frame := if w.compound then s.fill.map Fill.frame else none } } : State).arbitrate r.seg := by
  simp only [State.placeClaim, cur]
  rfl

theorem withhold_eq_claimed (s : State) (w : Wait) (r : RouteRecord) (cur : (s.slot w.slot).cur = some r) :
    s.withhold w = claimed s r w (if w.compound then s.fill.map Fill.frame else none) := by
  unfold State.withhold claimed
  cases owed : s.txn with
  | some t => rfl
  | none => exact placeClaim_eq _ _ r cur

/-! ### What the upstream port has no part in

An operation that neither reads nor moves the upstream port commutes with a change of the port: one lemma for each. -/

/-- The state with another upstream port. -/
def withPort (s : State) (p : Port) : State := { s with port := p }

theorem nackUp_eq_withPort (s : State) (dropTen : Bool) :
    s.nackUp dropTen = withPort s (unaddressed (if dropTen then none else s.port.ten) .nack) := rfl

theorem toIdle_eq_withPort (s : State) : s.toIdle = withPort s Port.idle := rfl

@[simp] theorem withPort_withPort (s : State) (p q : Port) : withPort (withPort s p) q = withPort s q := rfl
@[simp] theorem ite_withPort (c : Prop) [Decidable c] (s t : State) (p : Port) :
    withPort (if c then s else t) p = if c then withPort s p else withPort t p := apply_ite (withPort · p) c s t
@[simp] theorem txn_withPort (s : State) (p : Port) : (withPort s p).txn = s.txn := rfl
@[simp] theorem fill_withPort (s : State) (p : Port) : (withPort s p).fill = s.fill := rfl
@[simp] theorem seg_withPort (s : State) (p : Port) (g : Seg) : (withPort s p).seg g = s.seg g := rfl
@[simp] theorem slot_withPort (s : State) (p : Port) (i : SlotId) : (withPort s p).slot i = s.slot i := rfl
@[simp] theorem frame_withPort (s : State) (p : Port) (f : FrameId) : (withPort s p).frame f = s.frame f := rfl
@[simp] theorem queued_withPort (s : State) (p : Port) (i : SlotId) : (withPort s p).queued i = s.queued i := rfl
@[simp] theorem marker_withPort (s : State) (p : Port) (i : SlotId) : (withPort s p).marker i = s.marker i := rfl
@[simp] theorem owns_withPort (s : State) (p : Port) (i : SlotId) : (withPort s p).owns i = s.owns i := rfl
@[simp] theorem chooseGrant_withPort (s : State) (p : Port) (g : Seg) : (withPort s p).chooseGrant g = s.chooseGrant g := rfl

@[simp] theorem setSeg_withPort (s : State) (p : Port) (g : Seg) (x : Segment) :
    (withPort s p).setSeg g x = withPort (s.setSeg g x) p := rfl
@[simp] theorem setSlot_withPort (s : State) (p : Port) (i : SlotId) (x : Slot) :
    (withPort s p).setSlot i x = withPort (s.setSlot i x) p := rfl
@[simp] theorem setFrame_withPort (s : State) (p : Port) (f : FrameId) (x : Frame) :
    (withPort s p).setFrame f x = withPort (s.setFrame f x) p := rfl
@[simp] theorem clearFrame_withPort (s : State) (p : Port) (f : FrameId) :
    (withPort s p).clearFrame f = withPort (s.clearFrame f) p := rfl
@[simp] theorem raiseSlot_withPort (s : State) (p : Port) (i : SlotId) (f : SlotFlag) :
    (withPort s p).raiseSlot i f = withPort (s.raiseSlot i f) p := rfl
@[simp] theorem clearSlotFlags_withPort (s : State) (p : Port) (i : SlotId) :
    (withPort s p).clearSlotFlags i = withPort (s.clearSlotFlags i) p := rfl
@[simp] theorem applyModify_withPort (s : State) (p : Port) (i : SlotId) (r : RouteRecord) :
    (withPort s p).applyModify i r = withPort (s.applyModify i r) p := rfl
@[simp] theorem dropTxn_withPort (s : State) (p : Port) (t : Txn) :
    (withPort s p).dropTxn t = withPort (s.dropTxn t) p := rfl
@[simp] theorem own_withPort (s : State) (p : Port) (g : Seg) (d : Down) (n : Nat) :
    (withPort s p).own g d n = withPort (s.own g d n) p := rfl
@[simp] theorem setStage_withPort (s : State) (p : Port) (st : Stage) :
    (withPort s p).setStage st = withPort (s.setStage st) p := rfl
@[simp] theorem targetOf_withPort (s : State) (p : Port) (i : SlotId) : (withPort s p).targetOf i = s.targetOf i := rfl
@[simp] theorem frameSends_withPort (s : State) (p : Port) (i : SlotId) (f : FrameId) :
    (withPort s p).frameSends i f = s.frameSends i f := rfl
@[simp] theorem compoundSends_withPort (s : State) (p : Port) (i : SlotId) (f : FrameId) :
    (withPort s p).compoundSends i f = s.compoundSends i f := rfl

@[simp] theorem grant_withPort (s : State) (p : Port) (g : Seg) (x : Grant) :
    (withPort s p).grant g x = withPort (s.grant g x) p := by
  cases x with
  | probe c => simp [State.grant]
  | identify => simp [State.grant]
  | routed c => cases frame : s.txn.bind Txn.frame <;> simp [State.grant, frame]
  | head f => cases owner : (s.frame f).owner <;> simp [State.grant, owner]

@[simp] theorem arbitrate_withPort (s : State) (p : Port) (g : Seg) :
    (withPort s p).arbitrate g = withPort (s.arbitrate g) p := by
  cases choice : s.chooseGrant g <;> simp [State.arbitrate, choice]

@[simp] theorem releaseFill_withPort (s : State) (p : Port) :
    (withPort s p).releaseFill = withPort s.releaseFill p := by
  cases filled : s.fill <;> simp only [State.releaseFill, fill_withPort, filled]
  rfl

@[simp] theorem rejectFill_withPort (s : State) (p : Port) (i : SlotId) (f : SlotFlag) :
    (withPort s p).rejectFill i f = withPort (s.rejectFill i f) p := by
  simp [State.rejectFill]

@[simp] theorem queueFill_withPort (s : State) (p : Port) (x : Fill) :
    (withPort s p).queueFill x = withPort (s.queueFill x) p := by
  unfold State.queueFill
  exact arbitrate_withPort (({ s with fill := none } : State).setSeg x.seg _) p x.seg

@[simp] theorem closeFill_withPort (s : State) (p : Port) :
    (withPort s p).closeFill = withPort s.closeFill p := by
  cases filled : s.fill with
  | none => simp [State.closeFill, filled]
  | some x =>
    cases owner : (s.frame x.frame).owner with
    | none => simp [State.closeFill, filled, owner]
    | some i =>
      cases verified : (s.slot i).cur.bind fun r => r.verifyBytes (s.frame x.frame).bytes <;>
        simp [State.closeFill, filled, owner, verified]

@[simp] theorem clearFrames_withPort (s : State) (p : Port) (fs : List FrameId) :
    (withPort s p).clearFrames fs = withPort (s.clearFrames fs) p := by
  induction fs generalizing s with
  | nil => rfl
  | cons f fs ih => exact ih (s.clearFrame f)

@[simp] theorem purgeSlot_withPort (s : State) (p : Port) (i : SlotId) :
    (withPort s p).purgeSlot i = withPort (s.purgeSlot i) p := by
  cases cur : (s.slot i).cur with
  | none => simp [State.purgeSlot, cur]
  | some r =>
    simp [State.purgeSlot, cur]
    rfl

@[simp] theorem raiseSlotIf_withPort (s : State) (p : Port) (c : Bool) (i : SlotId) (f : SlotFlag) :
    (withPort s p).raiseSlotIf c i f = withPort (s.raiseSlotIf c i f) p := by
  cases c <;> rfl

@[simp] theorem freeSlot_withPort (s : State) (p : Port) (i : SlotId) (drained dropped : Bool) :
    (withPort s p).freeSlot i drained dropped = withPort (s.freeSlot i drained dropped) p := by
  simp [State.freeSlot]

@[simp] theorem applyRetire_withPort (s : State) (p : Port) (i : SlotId) (choice : Drain) (dropped : Bool) :
    (withPort s p).applyRetire i choice dropped = withPort (s.applyRetire i choice dropped) p := by
  cases choice <;> simp [State.applyRetire]

@[simp] theorem examinePending_withPort (s : State) (p : Port) (i : SlotId) (dropped : Bool) :
    (withPort s p).examinePending i dropped = withPort (s.examinePending i dropped) p := by
  cases pend : (s.slot i).pend with
  | none => simp [State.examinePending, pend]
  | some q =>
    cases q with
    | retire choice => simp [State.examinePending, pend]
    | modify r =>
      simp [State.examinePending, pend]
      rfl

@[simp] theorem drainingExit_withPort (s : State) (p : Port) (i : SlotId) (dropped : Bool) :
    (withPort s p).drainingExit i dropped = withPort (s.drainingExit i dropped) p := by
  simp [State.drainingExit]

@[simp] theorem examine_withPort (s : State) (p : Port) (i : SlotId) (dropped : Bool) :
    (withPort s p).examine i dropped = withPort (s.examine i dropped) p := by
  simp [State.examine]

@[simp] theorem dropCompound_withPort (s : State) (p : Port) (t : Txn) :
    (withPort s p).dropCompound t = withPort (s.dropCompound t) p := by
  simp [State.dropCompound]

/-! ### CUT_THROUGH_DATA_BYTE and READ_DATA_ACK (R83 to R88) -/

theorem exec_cutThroughDataByte (s : State) (b : Byte) (running : s.inReset = false) :
    exec (.cutThroughDataByte b) s = .next (if s.port.state = .routedCt ∧ s.port.stretch = none then s.takeCtByte b else s) := by
  change execCutThroughDataByte b s = _
  rw [execCutThroughDataByte, running_eq s _ running]

theorem exec_readDataAck (s : State) (ack : Bool) (running : s.inReset = false) :
    exec (.readDataAck ack) s = .next
      (if s.port.state = .routedRead ∧ s.port.stretch = none ∧ s.routedPos = some .readAck then s.takeReadAck ack
      else s) := by
  change execReadDataAck ack s = _
  rw [execReadDataAck, running_eq s _ running]

/-- An answer given on a port that is in a phase and does not stretch starts the upstream-low timer (R73). -/
theorem answer_inPhase (s : State) (a : UpOut) (busy : s.port.state ≠ .idle ∧ s.port.state ≠ .notAddressed)
    (free : s.port.stretch = none) : s.answer a = { s with port := { s.port with out := a, low := some 0 } } := by
  simp [State.answer, Port.sclFalls, lowTimerRuns_iff, busy, free]

theorem slotMaxLen_eq (s : State) (i : SlotId) (r : RouteRecord) (cur : (s.slot i).cur = some r) :
    s.slotMaxLen i = r.maxLen := by
  simp [State.slotMaxLen, cur]

theorem takeCtByte_eq (s : State) (t : Txn) (b : Byte) (r : RouteRecord) (current : s.txn = some t)
    (phase : s.port.state = .routedCt) (free : s.port.stretch = none) (cur : (s.slot t.slot).cur = some r) :
    s.takeCtByte b =
      if t.phaseRefused then { s with port := { s.port with out := .nack, low := some 0 } }
      else if r.maxLen ≤ t.count then
        { endedWith (s.raiseSlot t.slot .lengthExceeded) t .aborted true with port := unaddressed s.port.ten .nack }
      else { s.setSeg t.seg (redriven (s.seg t.seg) fun d => { d with pos := .byte, out := b }) with
        port := { s.port with stretch := some { elapsed := 0, limit := s.config.hold }, low := none } } := by
  have nacked := answer_inPhase s .nack (by simp [phase]) free
  have ended := endUpstream_takeFinal (s.raiseSlot t.slot .lengthExceeded) t .aborted current
  simp only [State.takeCtByte, current, slotMaxLen_eq s t.slot r cur, nacked, ended, mapDown_eq_setSeg]
  rfl

theorem routedPos_eq (s : State) (t : Txn) (d : Down) (current : s.txn = some t)
    (down : (s.seg t.seg).down = some d) : s.routedPos = some d.pos := by
  simp [State.routedPos, current, down]

theorem takeReadAck_ack (s : State) (t : Txn) (current : s.txn = some t) :
    s.takeReadAck true = { s.setSeg t.seg (redriven (s.seg t.seg) fun d => { d with pos := .readByte }) with
      port := { s.port with stretch := some { elapsed := 0, limit := s.config.hold }, low := none, out := .released,
                            firstByte := false } } := by
  simp only [State.takeReadAck, current, State.nextReadByte, mapDown_eq_setSeg]
  rfl

theorem takeReadAck_nack (s : State) (t : Txn) (current : s.txn = some t) (phase : s.port.state = .routedRead)
    (free : s.port.stretch = none) :
    s.takeReadAck false = { s.setSeg t.seg (redriven (s.seg t.seg) fun d => { d with pos := .boundary }) with
      port := { s.port with out := .released, firstByte := false, low := some 0 } } := by
  simp only [State.takeReadAck, current, mapDown_eq_setSeg]
  exact answer_inPhase _ .released (by simp [State.byteClocked, phase]) free

/-- Settles O44: each row by its guard, then by the branches of the byte or of the acknowledge. -/
theorem relayedBytesOfUpstreamMaster : Obligations.RelayedBytesOfUpstreamMaster := by
  intro s t running current
  refine ⟨fun b r phase free cur => ?_, fun d phase free down atAck => ?_, fun b ack stretched => ?_⟩
  · rw [exec_cutThroughDataByte s b running, if_pos ⟨phase, free⟩, takeCtByte_eq s t b r current phase free cur]
  · have guard : s.port.state = .routedRead ∧ s.port.stretch = none ∧ s.routedPos = some .readAck :=
      ⟨phase, free, by rw [routedPos_eq s t d current down, atAck]⟩
    rw [exec_readDataAck s true running, exec_readDataAck s false running, if_pos guard, if_pos guard,
      takeReadAck_ack s t current, takeReadAck_nack s t current phase free]
    exact ⟨rfl, rfl⟩
  · have held : s.port.stretch ≠ none := Option.isSome_iff_ne_none.mp stretched
    rw [exec_cutThroughDataByte s b running, exec_readDataAck s ack running, if_neg fun h => held h.2,
      if_neg fun h => held h.2.1]
    exact ⟨rfl, rfl⟩

/-! ### A read of the slot of a held fill (R90) -/

/-- The end of a held fill closes it: what follows does not see the held phase. -/
theorem endHeld_fill (s : State) (h : Held) (isHeld : s.port.held = some h) (fill : h.kind = .fill) :
    s.endHeld = withPort s.closeFill { s.port with held := none } := by
  simp only [State.endHeld, isHeld, fill]
  exact closeFill_withPort s _

theorem decideSlot_compoundRead (s : State) (h : Held) (xx : Option (BitVec 2)) (isHeld : s.port.held = some h)
    (fill : h.kind = .fill) : s.decideSlot h.slot true xx = s.compoundRead h.slot := by
  simp only [State.decideSlot, isHeld, if_true, State.settleSame, fill]

/-- A failed check closes the held fill as at STOP and NACKs the address. -/
theorem compoundRead_refused (s : State) (h : Held) (f : SlotFlag) (isHeld : s.port.held = some h)
    (fill : h.kind = .fill) (fails : s.addressCheck h.slot true = some f) :
    s.compoundRead h.slot = withPort (s.raiseSlot h.slot f).closeFill (unaddressed s.port.ten .nack) := by
  simp only [State.compoundRead, fails, endHeld_fill (s.raiseSlot h.slot f) h isHeld fill]
  rfl

/-- A loss of the frame on its way to the compound read, with its flag. -/
theorem rejectFill_nackUp (s : State) (p : Fill) (i : SlotId) (f : SlotFlag) (filled : s.fill = some p) :
    (s.rejectFill i f).nackUp false = withPort ((fillReturned s p).raiseSlot i f) (unaddressed s.port.ten .nack) := by
  rw [State.rejectFill, releaseFill_eq s p filled]
  rfl

theorem compoundRead_passes (s : State) (i : SlotId) (r : RouteRecord) (p : Fill) (filled : s.fill = some p)
    (cur : (s.slot i).cur = some r) (passes : s.addressCheck i true = none) :
    let x := s.frame p.frame
    let lost := fun (f : SlotFlag) => withPort ((fillReturned s p).raiseSlot i f) (unaddressed s.port.ten .nack)
    s.compoundRead i =
      if x.overlong then lost .lengthExceeded
      else if r.check ≠ .off ∧ x.bytes.getLast? ≠ some (crc8 (r.key.writeBytes ++ x.bytes.dropLast)) then lost .checkFail
      else claimed (s.setFrame p.frame { x with
          bytes := if r.check = .off then x.bytes else x.bytes.dropLast, verified := decide (r.check ≠ .off) })
        r { slot := i, read := true, ten := none, deferred := false, compound := true } (some p.frame) := by
  have placed := fun x : Frame => withhold_eq_claimed (s.setFrame p.frame x)
    { slot := i, read := true, ten := none, deferred := false, compound := true } r cur
  simp only [State.compoundRead, passes, filled, cur, rejectFill_nackUp s p i _ filled, verifyBytes_eq]
  by_cases wrong : r.check ≠ .off
      ∧ (s.frame p.frame).bytes.getLast? ≠ some (crc8 (r.key.writeBytes ++ (s.frame p.frame).bytes.dropLast))
  · simp only [if_pos wrong]
  · simp only [if_neg wrong, placed, setFrame_fill, filled]
    rfl

/-- Settles O41: by the first check that fails, then by the tests of the frame. -/
theorem compoundReadBegins : Obligations.CompoundReadBegins := by
  intro s h r p xx isHeld fill cur filled
  dsimp only
  rw [decideSlot_compoundRead s h xx isHeld fill, ← addressCheck_eq_routedCheck s h.slot r true cur]
  cases check : s.addressCheck h.slot true with
  | some f => exact compoundRead_refused s h f isHeld fill check
  | none => exact compoundRead_passes s h.slot r p filled cur check

/-! ### SEGMENT_CLEAR (R93, R141) -/

theorem answered_eq (s : State) (st : Status) (tag : Byte) (data : List Byte) :
    answered s st tag data = (s.toIdle).respond st tag data := rfl

/-- The withdrawal of a waiting claim answers on the port, and does nothing else that depends on it. -/
theorem abortWaiting_withPort_toIdle (s : State) (p : Port) (named : Txn → Bool) :
    ((withPort s p).abortWaiting named).toIdle = (s.abortWaiting named).toIdle := by
  cases current : s.txn with
  | none => simp [State.abortWaiting, current, toIdle_eq_withPort]
  | some t => simp [State.abortWaiting, State.withdraw, current, toIdle_eq_withPort, nackUp_eq_withPort]

/-- A record written back as it is changes nothing. -/
theorem setTxn_self (s : State) (o : Option Txn) (current : s.txn = o) : s = { s with txn := o } := by
  subst current
  rfl

theorem clearTail_eq (s : State) (g : Seg) :
    s.clearTail g = { s with txn := s.txn.map fun t =>
      if t.seg = g ∧ t.stage = .tail ∧ t.taken.any Taken.final = false then
        { t with taken := some { kind := .aborted, final := true } }
      else t } := by
  cases current : s.txn with
  | none => simpa [State.clearTail, current] using setTxn_self s none current
  | some t =>
    by_cases tail : t.seg = g ∧ t.stage = .tail
    · by_cases final : t.taken.any Taken.final = true <;> simp [State.clearTail, current, tail, Txn.takeFinal, final]
    · simpa [State.clearTail, current, tail, ← and_assoc] using setTxn_self s (some t) current

theorem cmdSegmentClear_free (tag : Byte) (g : Seg) (s : State)
    (free : (s.seg g).state = .idle ∨ (s.seg g).state = .external) :
    cmdSegmentClear tag (segByte g) s = ((s.beginRecovery g).withdrawAt g).respond .accepted tag [segByte g] := by
  obtain idle | external := free
  · simp only [cmdSegmentClear, State.withSeg, segOfByte_seg, idle]
  · simp only [cmdSegmentClear, State.withSeg, segOfByte_seg, external]

theorem cmdSegmentClear_faulted (tag : Byte) (g : Seg) (s : State) (faulted : (s.seg g).state = .faulted) :
    cmdSegmentClear tag (segByte g) s =
      ((s.setSeg g { s.seg g with idCount := 0 }).beginRecovery g).respond .accepted tag [segByte g] := by
  simp only [cmdSegmentClear, State.withSeg, segOfByte_seg, faulted]

theorem cmdSegmentClear_owned (tag : Byte) (g : Seg) (s : State) (owned : (s.seg g).state = .owned) :
    cmdSegmentClear tag (segByte g) s =
      ((s.mapDown g Down.toClear).clearTail g).respond .accepted tag [segByte g] := by
  simp only [cmdSegmentClear, State.withSeg, segOfByte_seg, owned]

theorem cmdSegmentClear_wrongState (tag : Byte) (g : Seg) (s : State)
    (wrong : (s.seg g).state = .recovering ∨ (s.seg g).state = .disabled) :
    cmdSegmentClear tag (segByte g) s = s.respond .wrongState tag [segByte g, (s.seg g).state.code] := by
  obtain recovering | disabled := wrong
  · simp only [cmdSegmentClear, State.withSeg, segOfByte_seg, recovering]
  · simp only [cmdSegmentClear, State.withSeg, segOfByte_seg, disabled]

/-- In IDLE and EXTERNAL: the answer after the recovery and the withdrawal, as without the management write. -/
theorem clear_free_toIdle (tag : Byte) (g : Seg) (s : State) (p : Port)
    (free : (s.seg g).state = .idle ∨ (s.seg g).state = .external) :
    (cmdSegmentClear tag (segByte g) (withPort s p)).toIdle =
      answered ((s.beginRecovery g).withdrawAt g) .accepted tag [segByte g] := by
  rw [cmdSegmentClear_free tag g (withPort s p) free, answered_eq]
  exact congrArg (fun u => State.respond u _ _ _) (abortWaiting_withPort_toIdle (s.beginRecovery g) p _)

theorem exec_segmentClear (tag : Byte) (check : Option Byte) (segment : Byte) (s : State)
    (takes : Takes s 0x31 tag check [segment]) : ∃ p, exec (.segmentClear tag check segment) s =
      .next (cmdSegmentClear tag segment (withPort s p)).toIdle :=
  ⟨_, congrArg Host.Outcome.next (managementWrite_takes s 0x31 tag check [segment] _ (by decide) (by simp) takes)⟩

/-- Settles O26, by the state of the segment. -/
theorem segmentClearStartsRecovery : Obligations.SegmentClearStartsRecovery := by
  intro tag check segment s takes
  obtain ⟨p, runs⟩ := exec_segmentClear tag check segment s takes
  refine ⟨fun big => ?_, fun g named => ?_⟩
  · rw [runs, cmdSegmentClear, State.withSeg, segOfByte_big segment big]
    rfl
  · subst named
    dsimp only
    rw [runs]
    cases state : (s.seg g).state with
    | idle => exact congrArg _ (clear_free_toIdle tag g s p (.inl state))
    | external => exact congrArg _ (clear_free_toIdle tag g s p (.inr state))
    | recovering =>
      rw [cmdSegmentClear_wrongState tag g (withPort s p) (.inl state), seg_withPort, state]
      rfl
    | disabled =>
      rw [cmdSegmentClear_wrongState tag g (withPort s p) (.inr state), seg_withPort, state]
      rfl
    | faulted =>
      rw [cmdSegmentClear_faulted tag g (withPort s p) state]
      simp only [State.beginRecovery, seg_setSeg_same, setSeg_setSeg]
      rfl
    | owned =>
      rw [cmdSegmentClear_owned tag g (withPort s p) state, clearTail_eq, mapDown_eq_setSeg]
      rfl

/-! ### FRAME_OUT_BYTE_ANSWER (R91, R92, R96) -/

@[simp] theorem fill_notePresence (s : State) (g : Seg) (a : Addr7) (ack : Bool) :
    (s.notePresence g a ack).fill = s.fill := by
  unfold State.notePresence
  split <;> rfl

@[simp] theorem port_notePresence (s : State) (g : Seg) (a : Addr7) (ack : Bool) :
    (s.notePresence g a ack).port = s.port := by
  unfold State.notePresence
  split <;> rfl

/-- The compound frame that stands in the fill position, returned with its loss. -/
theorem loseCompound_eq (s : State) (t : Txn) (p : Fill) (named : t.frame.isSome) (filled : s.fill = some p) :
    s.loseCompound t = { (fillReturned s p).raiseSlot t.slot .frameDropped with txn := some { t with frame := none } } := by
  simp only [State.loseCompound, State.dropCompound, named, if_true, releaseFill_eq s p filled]

/-- The same frame returned without loss. -/
theorem returnCompound_eq (s : State) (t : Txn) (p : Fill) (named : t.frame.isSome) (filled : s.fill = some p) :
    s.returnCompound t = { fillReturned s p with txn := some { t with frame := none } } := by
  simp only [State.returnCompound, named, if_true, releaseFill_eq s p filled]

/-- An ACK of the last byte: the frame returns to the pool and the read address follows (R91). -/
theorem frameOutAnswer_last (s : State) (g : Seg) (d : Down) (t : Txn) (p : Fill) (last : d.left = [])
    (named : t.frame.isSome) (filled : s.fill = some p) :
    s.frameOutAnswer g d t true =
      { (fillReturned s p).setSeg g (onLines ((fillReturned s p).seg g) (d.restart true)) with
        txn := some { t with answered := t.answered || decide (d.pos = .addr), stage := .address, frame := none } } := by
  have returned := returnCompound_eq s
    { t with answered := t.answered || decide (d.pos = .addr), stage := .address } p named filled
  simp only [State.frameOutAnswer, if_true, last, returned, setDown_eq_onLines]
  rfl

/-- An ACK of another byte: the next one goes out. -/
theorem frameOutAnswer_next (s : State) (g : Seg) (d : Down) (t : Txn) (b : Byte) (rest : List Byte)
    (more : d.left = b :: rest) :
    s.frameOutAnswer g d t true =
      { s.setSeg g (onLines (s.seg g) { d with pos := .byte, out := b, left := rest }) with
        txn := some { t with answered := t.answered || decide (d.pos = .addr) } } := by
  simp only [State.frameOutAnswer, if_true, more, reduceCtorEq, if_false, Down.nextByte, setDown_eq_onLines]
  rfl

/-- A NACK of the address: TARGET_NACK, the frame returned without loss (R92). -/
theorem frameOutAnswer_addressNack (s : State) (g : Seg) (d : Down) (t : Txn) (p : Fill) (atAddr : d.pos = .addr)
    (named : t.frame.isSome) (filled : s.fill = some p) :
    s.frameOutAnswer g d t false =
      { (fillReturned s p).setSeg g (onLines ((fillReturned s p).seg g) d.toStop) with
        txn := some { t with
          stage := .tail, frame := none
          taken := if t.taken.any Taken.final then t.taken else some { kind := .targetNack, final := true } }
        port := unaddressed (if (s.port.wait.bind Wait.ten).isSome then none else s.port.ten) .nack } := by
  have returned := fun taken => returnCompound_eq s { t with stage := .tail, taken := taken } p named filled
  simp only [State.frameOutAnswer, Bool.false_eq_true, if_false, atAddr, if_true, returned, setDown_eq_onLines,
    nackUp_eq_withPort, waitIsTen_eq, takeFinal_eq]
  rfl

/-- A NACK of a byte: WRITE_REFUSED, provisional, and the frame lost (R92, R94). -/
theorem frameOutAnswer_byteNack (s : State) (g : Seg) (d : Down) (t : Txn) (p : Fill) (atByte : d.pos ≠ .addr)
    (named : t.frame.isSome) (filled : s.fill = some p) :
    s.frameOutAnswer g d t false =
      { ((fillReturned s p).raiseSlot t.slot .frameDropped).setSeg g
          (onLines (((fillReturned s p).raiseSlot t.slot .frameDropped).seg g) d.toStop) with
        txn := some { t with
          stage := .tail, refused := true, frame := none
          taken := if t.taken.any Taken.final then t.taken else some { kind := .writeRefused, final := false } }
        port := unaddressed (if (s.port.wait.bind Wait.ten).isSome then none else s.port.ten) .nack } := by
  have lost := fun taken => loseCompound_eq s { t with stage := .tail, refused := true, taken := taken } p named filled
  simp only [State.frameOutAnswer, Bool.false_eq_true, if_false, atByte, lost, setDown_eq_onLines,
    nackUp_eq_withPort, waitIsTen_eq, takeNormal_eq, if_true]
  rfl

theorem exec_frameOutByteAnswer (s : State) (g : Seg) (d : Down) (t : Txn) (ack : Bool) (running : s.inReset = false)
    (down : (s.seg g).down = some d) (work : d.work = .routed true) (sent : d.pos = .addr ∨ d.pos = .byte)
    (attached : d.detached = false) (current : s.txn = some t) :
    let noted := if d.pos = .addr then s.notePresence g d.target ack else s
    exec (.frameOutByteAnswer g ack) s = .next
      (if t.stage = .frameOut then noted.frameOutAnswer g d t ack else (noted.loseCompound t).setDown g d.toStop) := by
  change execFrameOutByteAnswer g ack s = _
  rw [execFrameOutByteAnswer, running_eq s _ running]
  simp only [State.takeFrameOutAnswer, down, work, sent, and_self, if_true, current, attached, Bool.false_eq_true,
    if_false]

/-- Settles O46: by the stage, the answer, and the place of the byte in the frame. -/
theorem compoundFrameAnswers : Obligations.CompoundFrameAnswers := by
  intro s g d t p ack running down work sent attached current named filled
  dsimp only
  rw [exec_frameOutByteAnswer s g d t ack running down work sent attached current]
  congr 1
  have notedFill : (if d.pos = .addr then s.notePresence g d.target ack else s).fill = some p := by
    split <;> simp [filled]
  have notedPort : (if d.pos = .addr then s.notePresence g d.target ack else s).port = s.port := by
    split <;> simp
  generalize (if d.pos = .addr then s.notePresence g d.target ack else s) = noted at notedFill notedPort ⊢
  by_cases out : t.stage = .frameOut
  · rw [if_pos out, if_neg fun other => other out]
    cases ack with
    | true =>
      cases left : d.left with
      | nil =>
        rw [frameOutAnswer_last noted g d t p left named notedFill]
        rfl
      | cons b rest =>
        rw [frameOutAnswer_next noted g d t b rest left]
        rfl
    | false =>
      by_cases atAddr : d.pos = .addr
      · rw [frameOutAnswer_addressNack noted g d t p atAddr named notedFill, notedPort, if_pos atAddr]
        rfl
      · rw [frameOutAnswer_byteNack noted g d t p atAddr named notedFill, notedPort, if_neg atAddr]
        rfl
  · rw [if_neg out, if_pos out, loseCompound_eq noted t p named notedFill, setDown_eq_onLines]
    rfl

/-! ### The arbiter (R130) -/

theorem addressByteOf_eq (a : Addr7) (read : Bool) : addressByteOf a read = BitVec.ofNat 8 (2 * a.toNat + read.toNat) := by
  have fits : a.toNat * 2 % 256 = a.toNat * 2 := Nat.mod_eq_of_lt (by omega)
  have low : a.toNat * 2 ||| 1 = a.toNat * 2 + 1 := by
    simpa [Nat.shiftLeft_eq] using (Nat.shiftLeft_add_eq_or_of_lt (show 1 < 2 ^ 1 by decide) a.toNat).symm
  apply BitVec.eq_of_toNat_eq
  cases read <;> simp [addressByteOf, Nat.shiftLeft_eq, fits, low] <;> omega

/-- What a transaction of the part begins with on a segment that a grant makes OWNED (R131, R135). -/
def begun (s : State) (g : Seg) (work : Work) (target : Addr7) (read : Bool) (left : List Byte) (fair : Nat) : State :=
  s.setSeg g { s.seg g with
    state := .owned, fair := fair, busFree := none, low := some 0
    down := some { work := work, pos := .addr, target := target, read := read, first := true,
                   out := BitVec.ofNat 8 (2 * target.toNat + read.toNat), left := left, after := .goOn,
                   detached := false, clear := false } }

theorem own_begin (s : State) (g : Seg) (work : Work) (target : Addr7) (read : Bool) (left : List Byte) (fair : Nat) :
    s.own g (.begin work target read left) fair = begun s g work target read left fair := by
  simp only [State.own, Down.begin, addressByteOf_eq]
  rfl

/-- The bytes that a frame of a slot sends after the write address byte (R109, R111). -/
def sentBytes (s : State) (r : RouteRecord) (f : FrameId) : List Byte :=
  (s.frame f).bytes ++ if (s.frame f).verified = true ∧ r.check = .verifyRegen then
    [crc8 (BitVec.ofNat 8 (2 * r.target.toNat) :: (s.frame f).bytes)] else []

theorem targetOf_eq (s : State) (i : SlotId) (r : RouteRecord) (cur : (s.slot i).cur = some r) :
    s.targetOf i = r.target := by
  simp [State.targetOf, cur]

theorem frameSends_eq (s : State) (i : SlotId) (r : RouteRecord) (f : FrameId) (cur : (s.slot i).cur = some r) :
    s.frameSends i f = sentBytes s r f := by
  simp [State.frameSends, sentBytes, cur, targetOf_eq s i r cur, addressByteOf_eq]

/-! Each grant, by the claim it names. -/

theorem grant_probe (s : State) (g : Seg) (c : Addr7) : s.grant g (.probe c) = begun s g (.probe true) c false [] 0 :=
  own_begin s g _ _ _ _ _

theorem grant_identify (s : State) (g : Seg) :
    s.grant g .identify = begun s g (.identify none none) (s.seg g).cfg.alertAddr true [] (s.seg g).fairNext :=
  own_begin s g _ _ _ _ _

theorem grant_head (s : State) (g : Seg) (f : FrameId) (i : SlotId) (r : RouteRecord)
    (owner : (s.frame f).owner = some i) (cur : (s.slot i).cur = some r) :
    s.grant g (.head f) = begun s g (.delivery f none false) r.target false (sentBytes s r f) (s.seg g).fairNext := by
  simp only [State.grant, owner, own_begin, targetOf_eq s i r cur, frameSends_eq s i r f cur]

theorem grant_routed (s : State) (g : Seg) (c : Claim) (r : RouteRecord) (cur : (s.slot c.slot).cur = some r)
    (plain : s.txn.bind Txn.frame = none) :
    s.grant g (.routed c) = { begun s g (.routed false) r.target c.read [] (s.seg g).fairNext with
      txn := s.txn.map fun t => { t with stage := .address } } := by
  simp only [State.grant, plain, own_begin, targetOf_eq s c.slot r cur]
  rfl

theorem grant_compound (s : State) (g : Seg) (c : Claim) (r : RouteRecord) (f : FrameId)
    (cur : (s.slot c.slot).cur = some r) (compound : s.txn.bind Txn.frame = some f) :
    s.grant g (.routed c) = { begun s g (.routed true) r.target false
        (if (s.frame f).bytes = [] then [] else sentBytes s r f) (s.seg g).fairNext with
      txn := s.txn.map fun t => { t with stage := .frameOut } } := by
  simp only [State.grant, compound, own_begin, targetOf_eq s c.slot r cur, State.compoundSends,
    frameSends_eq s c.slot r f cur]
  rfl

/-! Which claim is granted. -/

theorem identifyClaim_iff (x : Segment) (idle : x.state = .idle) (free : x.down = none) :
    x.identifyClaim = true ↔ x.alertLow = true ∧ x.cfg.alertAddr ≠ 0 ∧ x.idCount < 4 := by
  change _ ↔ _ ∧ _ ∧ x.idCount < Config.identifyLimit
  simp [Segment.identifyClaim, Segment.identifying, SegState.inService, idle, free, and_assoc]

theorem chooseGrant_probeFirst (s : State) (g : Seg) (c : Addr7) (free : (s.seg g).down = none)
    (fair : (s.seg g).fair = 4) (cursor : (s.seg g).cursor = some c) : s.chooseGrant g = some (.probe c) := by
  simp [State.chooseGrant, Segment.probing, Config.fairnessLimit, free, fair, cursor]

/-- While the probe has no precedence: the routed claim, the identify claim, the queue head, the probe. -/
theorem chooseGrant_inTurn (s : State) (g : Seg) (free : (s.seg g).down = none)
    (inTurn : (s.seg g).fair ≠ 4 ∨ (s.seg g).cursor = none) :
    let head := (s.seg g).queue.head?.map Grant.head
    s.chooseGrant g =
      ((s.seg g).claim.bind fun c => if s.queued c.slot = 0 then some (.routed c) else head.or (some (.routed c))).or
        ((if (s.seg g).identifyClaim then some .identify else none).or
          (head.or ((s.seg g).cursor.map Grant.probe))) := by
  have notFirst : (if (s.seg g).fair = 4 then (s.seg g).cursor.map Grant.probe else none) = none := by
    obtain other | gone := inTurn
    · rw [if_neg other]
    · simp [gone]
  simp [State.chooseGrant, Segment.probing, Config.fairnessLimit, free, notFirst]

theorem arbitrate_grants (s : State) (g : Seg) (x : Grant) (idle : (s.seg g).state = .idle)
    (choice : s.chooseGrant g = some x) : s.arbitrate g = s.grant g x := by
  simp only [State.arbitrate, idle, if_true, choice]

theorem arbitrate_none (s : State) (g : Seg) (choice : s.chooseGrant g = none) : s.arbitrate g = s := by
  simp only [State.arbitrate, choice, ite_self]

theorem arbitrate_busy (s : State) (g : Seg) (busy : (s.seg g).state ≠ .idle) : s.arbitrate g = s := if_neg busy

/-- Settles O52: which claim is chosen in each case, and then what its grant begins. -/
theorem arbiterGrantsInOrder : Obligations.ArbiterGrantsInOrder := by
  intro s g
  refine ⟨arbitrate_busy s g, fun idle free => ⟨fun fair _ c cursor => ?_, fun inTurn => ?_⟩⟩
  · rw [arbitrate_grants s g _ idle (chooseGrant_probeFirst s g c free fair cursor), grant_probe]
    rfl
  have turn := chooseGrant_inTurn s g free inTurn
  have identifies := identifyClaim_iff (s.seg g) idle free
  refine ⟨fun c r claim cur empty => ?_, fun c claim queued _ f rest i r queue owner cur => ?_,
    fun claim named => ?_, fun claim unnamed f rest i r queue owner cur => ?_,
    fun claim unnamed queue c cursor => ?_, fun claim unnamed queue cursor => ?_⟩
  · have choice : s.chooseGrant g = some (.routed c) := by simp [turn, claim, empty]
    rw [arbitrate_grants s g _ idle choice]
    exact ⟨grant_routed s g c r cur, fun f => grant_compound s g c r f cur⟩
  · have choice : s.chooseGrant g = some (.head f) := by simp [turn, claim, queued, queue]
    rw [arbitrate_grants s g _ idle choice]
    exact grant_head s g f i r owner cur
  · have choice : s.chooseGrant g = some .identify := by simp [turn, claim, identifies.mpr named]
    rw [arbitrate_grants s g _ idle choice]
    exact grant_identify s g
  · have choice : s.chooseGrant g = some (.head f) := by simp [turn, claim, mt identifies.mp unnamed, queue]
    rw [arbitrate_grants s g _ idle choice]
    exact grant_head s g f i r owner cur
  · have choice : s.chooseGrant g = some (.probe c) := by simp [turn, claim, mt identifies.mp unnamed, queue, cursor]
    rw [arbitrate_grants s g _ idle choice]
    exact grant_probe s g c
  · exact arbitrate_none s g (by simp [turn, claim, mt identifies.mp unnamed, queue, cursor])

end Sys2Proof.RoutedTransactions
end

section
/-! PROOF. Posted writes and the frame pool: the check byte of a posted frame, the soft resets, and the places of the
frames, which every step keeps. -/

namespace Sys2Proof.FramePool

open Sys2Proof Sys2Proof.Machine Sys2Proof.Safety

/-! ### The check byte of posted frames (R106, R197, R198) -/

theorem writeBytes_seven (v : Addr7) :
    ({ form := .seven, addr := v.setWidth 10 } : Key).writeBytes = [BitVec.ofNat 8 (v.toNat * 2)] := by
  have byte : addressByteOf ((v.setWidth 10).setWidth 7) false = BitVec.ofNat 8 (v.toNat * 2) := by
    apply BitVec.eq_of_toNat_eq
    simp [addressByteOf, Nat.shiftLeft_eq]
  simp only [Key.writeBytes, byte]

theorem writeBytes_ten (xx : BitVec 2) (b : Byte) :
    ({ form := .ten, addr := BitVec.ofNat 10 (xx.toNat * 256 + b.toNat) } : Key).writeBytes =
      [BitVec.ofNat 8 (0xF0 + xx.toNat * 2), b] := by
  have upper : ((BitVec.ofNat 10 (xx.toNat * 256 + b.toNat)) >>> 8).setWidth 8 = xx.setWidth 8 := by
    apply BitVec.eq_of_toNat_eq
    simp [Nat.shiftRight_eq_div_pow]
    omega
  have first : ∀ xx : BitVec 2, (0xF0 : Byte) ||| (xx.setWidth 8 <<< 1) = BitVec.ofNat 8 (0xF0 + xx.toNat * 2) := by
    decide
  have second : (BitVec.ofNat 10 (xx.toNat * 256 + b.toNat)).setWidth 8 = b := by
    apply BitVec.eq_of_toNat_eq
    simp
    omega
  simp only [Key.writeBytes, upper, second]
  exact congrArg (· :: [b]) (first xx)

/-- The generator 31h is odd and a shift leaves bit 0 clear, so a shift loses nothing of the register. -/
theorem crcShift_eq_zero_iff (r : Byte) : crcShift r = 0 ↔ r = 0 := by
  refine ⟨fun zero => ?_, fun zero => by subst zero; rfl⟩
  unfold crcShift at zero
  split at zero
  · have bit := congrArg (·.getLsbD 0) zero
    simp at bit
  · rename_i clear
    have small := BitVec.msb_eq_false_iff_two_mul_lt.mp (Bool.eq_false_iff.mpr clear)
    bv_omega

theorem crcFeed_eq_zero_iff (r b : Byte) : crcFeed r b = 0 ↔ b = r := by
  simp only [crcFeed, crcShift_eq_zero_iff]
  exact BitVec.xor_eq_zero_iff.trans eq_comm

theorem crc8_concat (bytes : List Byte) (b : Byte) : crc8 (bytes ++ [b]) = crcFeed (crc8 bytes) b := by
  simp [crc8]

/-- Settles O42: the bytes of each form, and a CRC register that holds 00h only when its own value was fed to it. -/
theorem checkByteOfPostedFrame : Obligations.CheckByteOfPostedFrame := by
  refine ⟨⟨writeBytes_seven, writeBytes_ten, rfl, rfl⟩, fun covered c => ?_⟩
  rw [crc8_concat, crcFeed_eq_zero_iff]

/-! ### The soft resets (R187 to R189) -/

theorem raise_eq_raised (o : Owner) (bit : Nat) : o.raise bit = raised o bit := by
  have mark : 1#16 <<< bit = BitVec.ofNat 16 (2 ^ bit) := by
    apply BitVec.eq_of_toNat_eq
    simp [Nat.shiftLeft_eq]
  simp only [Owner.raise, raised, mark]

/-- A walk over places that are all different changes each of its places once, and no other. -/
theorem get_foldl_set {α : Type} {n : Nat} (f : α → α) (l : List (Fin n)) (once : l.Nodup) (v : Vector α n)
    (j : Fin n) :
    (l.foldl (fun (v : Vector α n) (i : Fin n) => v.set i (f (v.get i))) v).get j =
      if j ∈ l then f (v.get j) else v.get j := by
  induction l generalizing v with
  | nil => simp
  | cons i l ih =>
    obtain ⟨fresh, once⟩ := List.nodup_cons.mp once
    rw [List.foldl_cons, ih once, vector_get_set]
    by_cases here : j = i
    · subst here
      simp [fresh]
    · simp [here]

@[simp] theorem clearSlots_device (a : Attention) : a.clearSlots.device = a.device := by
  simp only [Attention.clearSlots]
@[simp] theorem clearSlots_segs (a : Attention) : a.clearSlots.segs = a.segs := by
  simp only [Attention.clearSlots]
@[simp] theorem clearSlots_unrouted (a : Attention) : a.clearSlots.unrouted = a.unrouted := by
  simp only [Attention.clearSlots]

theorem clearSlots_get (a : Attention) (i : SlotId) : a.clearSlots.slots.get i = (a.slots.get i).cleared := by
  have walked := get_foldl_set Owner.cleared allSlots (List.nodup_finRange 64) a.slots i
  exact walked.trans (if_pos (List.mem_finRange i))

/-- What SOFT_RESET ROUTES leaves: the whole state, with the flags in the words of R162 (R188). -/
theorem cmdSoftResetRoutes_eq (tag : Byte) (s : State) :
    cmdSoftResetRoutes tag s = { s with
      slots := Vector.replicate 64 Slot.free, session := none, staging := [], frames := Vector.replicate 24 Frame.empty
      fill := none, txn := none, port := { s.port with ten := none }, segs := s.segs.map Segment.routesReset
      att := { s.att.clearSlots with device := raised s.att.device 1 }
      resp := { status := .resetDone, tag := tag, data := [0] } } := by
  simp only [cmdSoftResetRoutes, State.raiseDevice, State.setDeviceOwner, State.respond, clearSlots_device,
    raise_eq_raised, DeviceFlag.bit]

/-- SOFT_RESET ALL leaves the part as device reset does, but for the strapped address, the segments and the queue, with
an answer of its own (R170, R189). -/
theorem cmdSoftResetAll_eq (tag : Byte) (s : State) :
    cmdSoftResetAll tag s =
      { State.reset with
        mgmtAddr := s.mgmtAddr, segs := s.segs.map Segment.allReset, pending := s.pending
        resp := { status := .resetDone, tag := tag, data := [1] } } := by
  have occurred : Attention.clear.device.raise DeviceFlag.resetOccurred.bit = { flags := 1, stamp := 1 } := by decide
  simp only [cmdSoftResetAll, State.raiseDevice, State.setDeviceOwner, State.respond, State.blank, occurred]
  rfl

/-- A frame of SOFT_RESET that the part takes runs the command of its scope, and the port is IDLE after it. -/
theorem execSoftResetRoutes_takes (tag : Byte) (check : Option Byte) (s : State)
    (takes : Takes s 0x0F tag check [0x00]) :
    exec (.softResetRoutes tag check) s =
      .next (cmdSoftResetRoutes tag { s with port := Port.writing (frameBytes 0x0F tag check [0x00]) }).toIdle :=
  congrArg _ (managementWrite_takes s 0x0F tag check [0x00] _ (by decide) (by decide) takes)

theorem execSoftResetAll_takes (tag : Byte) (check : Option Byte) (s : State)
    (takes : Takes s 0x0F tag check [0x01]) :
    exec (.softResetAll tag check) s =
      .next (cmdSoftResetAll tag { s with port := Port.writing (frameBytes 0x0F tag check [0x01]) }).toIdle :=
  congrArg _ (managementWrite_takes s 0x0F tag check [0x01] _ (by decide) (by decide) takes)

/-- Settles O11: each scope from the state that its command leaves. -/
theorem softResets : Obligations.SoftResets := by
  refine ⟨fun tag check s takes => ⟨_, execSoftResetRoutes_takes tag check s takes, ?_⟩,
    fun tag check s takes => ⟨_, execSoftResetAll_takes tag check s takes, ?_, fun g => ?_⟩⟩
  · obtain ⟨running, _, _⟩ := takes
    rw [cmdSoftResetRoutes_eq]
    refine ⟨fun i => ⟨vector_get_replicate _ i, ?_⟩, fun f => vector_get_replicate _ f, rfl, rfl,
      rfl, rfl, rfl, fun g => ?_, fun g => ?_, rfl, rfl, rfl, running, rfl, rfl, rfl⟩
    · exact clearSlots_get s.att i
    · exact PerSegment.get_map Segment.routesReset s.segs g
    · simp only [State.segOwner, State.toIdle, clearSlots_segs, clearSlots_unrouted, and_self]
  · rw [cmdSoftResetAll_eq]
    rfl
  · rw [cmdSoftResetAll_eq]
    exact PerSegment.get_map Segment.allReset s.segs g

/-! ### Where the frames stand, operation by operation (R98, R100)

`FramePlaces` names the queues and the fill position alone, so an update of anything else keeps it as it stands. -/

theorem framePlaces_answers : AnswersKeep FramePlaces := fun _ _ _ _ places => places

theorem framePlaces_portFree : PortFree FramePlaces := fun _ _ places => places

theorem framePlaces_timerFree : TimerFree FramePlaces := fun _ _ _ places => places

/-- With no frame in a queue nor in the fill position there is nothing to stand in two places. -/
theorem framePlaces_of_empty {s : State} (queues : ∀ g, (s.seg g).queue = []) (fill : s.fill = none) :
    FramePlaces s := by
  simp [FramePlaces, queues, fill]

theorem framePlaces_ite {s u : State} (c : Prop) [Decidable c] (taken : FramePlaces u) (other : FramePlaces s) :
    FramePlaces (if c then u else s) := by
  split
  · exact taken
  · exact other

/-! ### The commands of the device, the edit session and the routes -/

theorem framePlaces_deviceConfigWrite (tag h i r m3 m2 m1 m0 : Byte) {s : State} (places : FramePlaces s) :
    FramePlaces (cmdDeviceConfigWrite tag h i r m3 m2 m1 m0 s) := by
  unfold cmdDeviceConfigWrite
  split <;> exact places

theorem framePlaces_softResetRoutes (tag : Byte) (s : State) : FramePlaces (cmdSoftResetRoutes tag s) := by
  refine framePlaces_of_empty (fun g => ?_) rfl
  exact congrArg Segment.queue (PerSegment.get_map Segment.routesReset s.segs g)

theorem framePlaces_softResetAll (tag : Byte) (s : State) : FramePlaces (cmdSoftResetAll tag s) := by
  refine framePlaces_of_empty (fun g => ?_) rfl
  exact congrArg Segment.queue (PerSegment.get_map Segment.allReset s.segs g)

theorem framePlaces_softReset (tag scope : Byte) {s : State} (places : FramePlaces s) :
    FramePlaces (cmdSoftReset tag scope s) := by
  unfold cmdSoftReset
  split
  · exact framePlaces_softResetRoutes tag s
  · exact framePlaces_ite _ (framePlaces_softResetAll tag s) places

theorem framePlaces_blank (address : Addr7) (alerts : PerSegment Bool) (queue : List Instr) :
    FramePlaces (State.blank address alerts queue) :=
  framePlaces_of_empty (fun g => by cases g <;> rfl) rfl

theorem framePlaces_beginReset (s : State) : FramePlaces s.beginReset :=
  framePlaces_blank s.mgmtAddr s.alertLevels s.pending

theorem framePlaces_endReset (adr1 adr0 : Bool) (s : State) : FramePlaces (s.endReset adr1 adr0) :=
  framePlaces_blank (0x5C + (if adr1 then 2 else 0) + (if adr0 then 1 else 0)) s.alertLevels s.pending

theorem framePlaces_expireSession {s : State} (places : FramePlaces s) : FramePlaces s.expireSession :=
  framePlaces_ite _ places places

theorem framePlaces_editOpen (tag : Byte) {s : State} (places : FramePlaces s) : FramePlaces (cmdEditOpen tag s) := by
  unfold cmdEditOpen
  split <;> exact places

theorem framePlaces_placeEntry (tag : Byte) (e : Entry) {s : State} (places : FramePlaces s) :
    FramePlaces (s.placeEntry tag e) := by
  unfold State.placeEntry
  split
  · exact places
  · split <;> exact places

theorem framePlaces_editStage (tag token slot action : Byte) (entry : List Byte) {s : State} (places : FramePlaces s) :
    FramePlaces (cmdEditStage tag token slot action entry s) := by
  refine withToken_keeps framePlaces_answers framePlaces_timerFree tag token _ s (fun u places => ?_) places
  refine withSlot_keeps framePlaces_answers tag slot _ u (fun i => ?_) places
  split
  · exact places
  · exact framePlaces_placeEntry tag _ places

theorem framePlaces_editUnstage (tag token slot : Byte) {s : State} (places : FramePlaces s) :
    FramePlaces (cmdEditUnstage tag token slot s) := by
  refine withToken_keeps framePlaces_answers framePlaces_timerFree tag token _ s (fun u places => ?_) places
  refine withSlot_keeps framePlaces_answers tag slot _ u (fun i => ?_) places
  split <;> exact places

theorem framePlaces_editList (tag token : Byte) {s : State} (places : FramePlaces s) :
    FramePlaces (cmdEditList tag token s) :=
  withToken_keeps framePlaces_answers framePlaces_timerFree tag token _ s (fun _ places => places) places

theorem framePlaces_editAbandon (tag token : Byte) {s : State} (places : FramePlaces s) :
    FramePlaces (cmdEditAbandon tag token s) :=
  withToken_keeps framePlaces_answers framePlaces_timerFree tag token _ s (fun _ places => places) places

theorem framePlaces_applyEntries (entries : List Entry) {s : State} (places : FramePlaces s) :
    FramePlaces (s.applyEntries entries).1 := by
  induction entries generalizing s with
  | nil => exact places
  | cons e rest ih => exact ih (places_applyEntry e places)

theorem framePlaces_editCommit (tag token : Byte) {s : State} (places : FramePlaces s) :
    FramePlaces (cmdEditCommit tag token s) := by
  refine withToken_keeps framePlaces_answers framePlaces_timerFree tag token _ s (fun u places => ?_) places
  split
  · exact places
  · exact framePlaces_applyEntries u.staging places

theorem framePlaces_moveSlot (tag : Byte) (i : SlotId) (old new : SlotState) (faults : Nat) {s : State}
    (places : FramePlaces s) : FramePlaces (s.moveSlot tag i old new faults) := framePlaces_ite _ places places

theorem framePlaces_routeHold (tag slot : Byte) {s : State} (places : FramePlaces s) :
    FramePlaces (cmdRouteHold tag slot s) :=
  withSlot_keeps framePlaces_answers tag slot _ s (fun i => framePlaces_moveSlot tag i _ _ _ places) places

theorem framePlaces_routeResume (tag slot : Byte) {s : State} (places : FramePlaces s) :
    FramePlaces (cmdRouteResume tag slot s) :=
  withSlot_keeps framePlaces_answers tag slot _ s (fun i => framePlaces_moveSlot tag i _ _ _ places) places

theorem framePlaces_routeRelease (tag slot : Byte) {s : State} (places : FramePlaces s) :
    FramePlaces (cmdRouteRelease tag slot s) :=
  withSlot_keeps framePlaces_answers tag slot _ s (fun i => framePlaces_moveSlot tag i _ _ _ places) places

theorem framePlaces_routeRead (tag slot : Byte) {s : State} (places : FramePlaces s) :
    FramePlaces (cmdRouteRead tag slot s) :=
  withSlot_keeps framePlaces_answers tag slot _ s (fun _ => places) places

theorem framePlaces_respondFound (tag : Byte) (found : Option SlotId) {s : State} (places : FramePlaces s) :
    FramePlaces (s.respondFound tag found) := by
  unfold State.respondFound
  split <;> exact places

theorem framePlaces_routeFindVirtual (tag formAndUpper lower : Byte) {s : State} (places : FramePlaces s) :
    FramePlaces (cmdRouteFindVirtual tag formAndUpper lower s) := by
  unfold cmdRouteFindVirtual
  split
  · exact places
  · exact framePlaces_respondFound tag _ places

theorem framePlaces_routeFindTarget (tag segment target : Byte) {s : State} (places : FramePlaces s) :
    FramePlaces (cmdRouteFindTarget tag segment target s) := by
  refine withSeg_keeps framePlaces_answers tag segment _ s (fun g => ?_) places
  split
  · exact places
  · exact framePlaces_respondFound tag _ places

/-! ### The commands of the segments and of attention -/

/-- A segment replaced by one with the same queue. -/
theorem framePlaces_setSeg {s : State} {g : Seg} {x : Segment} (same : x.queue = (s.seg g).queue)
    (places : FramePlaces s) : FramePlaces (s.setSeg g x) :=
  PlacesOk.set places (same ▸ List.Sublist.refl _)

theorem framePlaces_segmentConfig (tag segment enable speed lowLimit retry alert : Byte) {s : State}
    (places : FramePlaces s) : FramePlaces (cmdSegmentConfig tag segment enable speed lowLimit retry alert s) := by
  refine withSeg_keeps framePlaces_answers tag segment _ s (fun g => ?_) places
  split
  · exact places
  · split
    · exact places_arbitrate g (places_install g _ places)
    · exact framePlaces_setSeg rfl places

theorem framePlaces_segmentClear (tag segment : Byte) {s : State} (places : FramePlaces s) :
    FramePlaces (cmdSegmentClear tag segment s) := by
  refine withSeg_keeps framePlaces_answers tag segment _ s (fun g => ?_) places
  split
  · exact places_withdrawAt g (places_beginRecovery g places)
  · exact places_withdrawAt g (places_beginRecovery g places)
  · exact places_beginRecovery g (framePlaces_setSeg rfl places)
  · exact places_clearTail g (places_mapDown g _ places)
  · exact places
  · exact places

theorem framePlaces_segmentStatus (tag segment : Byte) {s : State} (places : FramePlaces s) :
    FramePlaces (cmdSegmentStatus tag segment s) :=
  withSeg_keeps framePlaces_answers tag segment _ s (fun _ => places) places

theorem framePlaces_segmentDiscover (tag segment : Byte) {s : State} (places : FramePlaces s) :
    FramePlaces (cmdSegmentDiscover tag segment s) := by
  refine withSeg_keeps framePlaces_answers tag segment _ s (fun g => ?_) places
  split
  · exact places
  · split
    · exact places_arbitrate g (framePlaces_setSeg rfl places)
    · exact places

theorem framePlaces_discoverCancel (tag segment : Byte) {s : State} (places : FramePlaces s) :
    FramePlaces (cmdDiscoverCancel tag segment s) := by
  refine withSeg_keeps framePlaces_answers tag segment _ s (fun g => ?_) places
  split
  · exact places
  · exact framePlaces_setSeg rfl places

theorem framePlaces_presenceRead (tag segment : Byte) {s : State} (places : FramePlaces s) :
    FramePlaces (cmdPresenceRead tag segment s) :=
  withSeg_keeps framePlaces_answers tag segment _ s (fun _ => places) places

theorem framePlaces_attentionRead (tag kind number : Byte) {s : State} (places : FramePlaces s) :
    FramePlaces (cmdAttentionRead tag kind number s) := by
  unfold cmdAttentionRead
  split <;> exact places

theorem framePlaces_attentionAck (tag kind number stamp high low : Byte) {s : State} (places : FramePlaces s) :
    FramePlaces (cmdAttentionAck tag kind number stamp high low s) := by
  unfold cmdAttentionAck
  split
  · exact places
  · dsimp only
    split
    · exact places
    · exact framePlaces_ite _ (places_setOwner _ _ places) places

/-! ### The assembled management write (R59, R176) -/

theorem framePlaces_runLong (code tag : Byte) (args : List Byte) {s : State} (places : FramePlaces s) :
    FramePlaces (s.runLong code tag args) := by
  unfold State.runLong
  split
  · exact framePlaces_ite _ (framePlaces_deviceConfigWrite tag _ _ _ _ _ _ _ places) places
  · exact framePlaces_ite _ (framePlaces_segmentConfig tag _ _ _ _ _ _ places) places
  · exact framePlaces_ite _ (framePlaces_attentionAck tag _ _ _ _ _ places) places
  · exact places

theorem framePlaces_runStage (tag : Byte) (args : List Byte) {s : State} (places : FramePlaces s) :
    FramePlaces (s.runStage tag args) := by
  unfold State.runStage
  split
  · exact framePlaces_ite _ (framePlaces_editStage tag _ _ _ _ places) places
  · exact places

theorem framePlaces_runCode (code tag : Byte) (args : List Byte) {s : State} (places : FramePlaces s) :
    FramePlaces (s.runCode code tag args) := by
  have noArgs {f : State → State} (keeps : FramePlaces (f s)) : FramePlaces (s.take0 tag args f) :=
    take0_keeps framePlaces_answers tag args f s keeps places
  have oneArg {f : Byte → State → State} (keeps : ∀ a, FramePlaces (f a s)) : FramePlaces (s.take1 tag args f) :=
    take1_keeps framePlaces_answers tag args f s keeps places
  have twoArgs {f : Byte → Byte → State → State} (keeps : ∀ a b, FramePlaces (f a b s)) :
      FramePlaces (s.take2 tag args f) :=
    take2_keeps framePlaces_answers tag args f s keeps places
  unfold State.runCode
  refine framePlaces_ite _ (noArgs places) ?_
  refine framePlaces_ite _ (noArgs places) ?_
  refine framePlaces_ite _ (framePlaces_runLong code tag args places) ?_
  refine framePlaces_ite _ (oneArg fun _ => framePlaces_softReset tag _ places) ?_
  refine framePlaces_ite _ (noArgs (framePlaces_editOpen tag places)) ?_
  refine framePlaces_ite _ (framePlaces_runStage tag args places) ?_
  refine framePlaces_ite _ (twoArgs fun _ _ => framePlaces_editUnstage tag _ _ places) ?_
  refine framePlaces_ite _ (oneArg fun _ => framePlaces_editList tag _ places) ?_
  refine framePlaces_ite _ (oneArg fun _ => framePlaces_editCommit tag _ places) ?_
  refine framePlaces_ite _ (oneArg fun _ => framePlaces_editAbandon tag _ places) ?_
  refine framePlaces_ite _ (oneArg fun _ => framePlaces_routeHold tag _ places) ?_
  refine framePlaces_ite _ (oneArg fun _ => framePlaces_routeResume tag _ places) ?_
  refine framePlaces_ite _ (oneArg fun _ => framePlaces_routeRelease tag _ places) ?_
  refine framePlaces_ite _ (oneArg fun _ => framePlaces_routeRead tag _ places) ?_
  refine framePlaces_ite _ (twoArgs fun _ _ => framePlaces_routeFindVirtual tag _ _ places) ?_
  refine framePlaces_ite _ (twoArgs fun _ _ => framePlaces_routeFindTarget tag _ _ places) ?_
  refine framePlaces_ite _ (oneArg fun _ => framePlaces_segmentClear tag _ places) ?_
  refine framePlaces_ite _ (oneArg fun _ => framePlaces_segmentStatus tag _ places) ?_
  refine framePlaces_ite _ (oneArg fun _ => framePlaces_segmentDiscover tag _ places) ?_
  refine framePlaces_ite _ (oneArg fun _ => framePlaces_discoverCancel tag _ places) ?_
  refine framePlaces_ite _ (oneArg fun _ => framePlaces_presenceRead tag _ places) ?_
  refine framePlaces_ite _ (noArgs places) ?_
  refine framePlaces_ite _ (twoArgs fun _ _ => framePlaces_attentionRead tag _ _ places) ?_
  exact places

theorem framePlaces_runWrite {s : State} (places : FramePlaces s) : FramePlaces s.runWrite :=
  runWrite_keeps framePlaces_answers s (fun code tag args => framePlaces_runCode code tag args places) places

/-! ### The conditions of the upstream bus (R68, R69, R75) -/

theorem framePlaces_takeStart {s : State} (places : FramePlaces s) : FramePlaces s.takeStart := by
  unfold State.takeStart
  cases s.port.state with
  | idle => exact places
  | address => exact places
  | tenFirst => exact places
  | notAddressed => exact places
  | mgmtWrite => exact framePlaces_ite _ (framePlaces_runWrite places) (framePlaces_runWrite places)
  | mgmtRead => exact places
  | routedCt => exact places_pauseTxn places
  | routedRead => exact places_pauseTxn places
  | postedFill => exact places

theorem framePlaces_takeStop {s : State} (places : FramePlaces s) : FramePlaces s.takeStop := by
  unfold State.takeStop
  cases s.port.state with
  | idle => exact places
  | address => exact places_endHeld places
  | tenFirst => exact places_endHeld places
  | notAddressed => exact places
  | mgmtWrite => exact framePlaces_runWrite places
  | mgmtRead => exact places
  | routedCt => exact places_endUpstream _ places
  | routedRead => exact places_endUpstream _ places
  | postedFill => exact places_closeFill places

theorem framePlaces_takeCondition (c : Condition) {s : State} (places : FramePlaces s) :
    FramePlaces (s.takeCondition c) := by
  cases c with
  | start => exact framePlaces_takeStart places
  | stop => exact framePlaces_takeStop places

theorem framePlaces_takeMisplaced (c : Condition) {s : State} (places : FramePlaces s) :
    FramePlaces (s.takeMisplaced c) := by
  unfold State.takeMisplaced
  split
  · exact framePlaces_takeCondition c places
  · split
    · exact places
    · exact framePlaces_takeCondition c (s := s.abandonPhase.toIdle) (places_abandonPhase places)

/-! ### Every row of the table -/

/-- The next state of an outcome keeps L3 and L4. -/
def NextKeepsPlaces (o : Host.Outcome State Fault Refusal) : Prop := ∀ t, o = .next t → FramePlaces t

theorem nextKeepsPlaces_next {t : State} (places : FramePlaces t) : NextKeepsPlaces (.next t) := by
  intro u same
  cases same
  exact places

/-- A row that the part takes while it runs (R203, R204). -/
theorem nextKeepsPlaces_running {s : State} {event : State → State}
    (keeps : ∀ u, FramePlaces u → FramePlaces (event u)) (places : FramePlaces s) :
    NextKeepsPlaces (.next (s.running event)) :=
  nextKeepsPlaces_next (running_keeps event keeps s places)

/-- A row that has no effect where the part does not stand as the row needs (log entry 1). -/
theorem nextKeepsPlaces_guarded {s : State} {c : State → Prop} [DecidablePred c] {event : State → State}
    (keeps : ∀ u, FramePlaces u → FramePlaces (event u)) (places : FramePlaces s) :
    NextKeepsPlaces (.next (s.running fun u => if c u then event u else u)) :=
  nextKeepsPlaces_running (fun u before => framePlaces_ite _ (keeps u before) before) places

/-- A row that is one whole management write (R58, R176). -/
theorem nextKeepsPlaces_write {s : State} {frame : List Byte} {command : State → State}
    (keeps : ∀ u, FramePlaces u → FramePlaces (command u)) (places : FramePlaces s) :
    NextKeepsPlaces (.next (s.managementWrite frame command)) :=
  nextKeepsPlaces_next (managementWrite_keeps framePlaces_answers framePlaces_portFree frame command s keeps places)

theorem nextKeepsPlaces_exec (i : Instr) {s : State} (places : FramePlaces s) : NextKeepsPlaces (exec i s) := by
  cases i with
  | start => exact nextKeepsPlaces_guarded (fun _ => framePlaces_takeStart) places
  | repeatedStart => exact nextKeepsPlaces_guarded (fun _ => framePlaces_takeStart) places
  | stop => exact nextKeepsPlaces_guarded (fun _ => framePlaces_takeStop) places
  | misplacedCondition condition =>
    exact nextKeepsPlaces_running (fun _ => framePlaces_takeMisplaced condition) places
  | addressByte address read => exact nextKeepsPlaces_guarded (fun _ => places_decideAddress address read) places
  | tenBitFirstByte upper => exact nextKeepsPlaces_guarded (fun _ => places_decideTenFirst upper) places
  | tenBitSecondByte lower => exact nextKeepsPlaces_guarded (fun _ => places_decideTenSecond lower) places
  | tenBitReadForm upper => exact nextKeepsPlaces_guarded (fun _ => places_decideTenRead upper) places
  | mgmtWriteByte byte => exact nextKeepsPlaces_guarded (fun _ => places_takeMgmtByte byte) places
  | mgmtReadByte masterAck => exact nextKeepsPlaces_guarded (fun _ => places_sendMgmtByte masterAck) places
  | postedFillByte byte => exact nextKeepsPlaces_guarded (fun _ => places_takeFillByte byte) places
  | cutThroughDataByte byte => exact nextKeepsPlaces_guarded (fun _ => places_takeCtByte byte) places
  | readDataAck masterAck => exact nextKeepsPlaces_guarded (fun _ => places_takeReadAck masterAck) places
  | holdLimitExpiry => exact nextKeepsPlaces_guarded (fun _ => places_expireHold) places
  | upstreamLowTimeout => exact nextKeepsPlaces_guarded (fun _ => places_abandonPhase) places
  | editExpiry => exact nextKeepsPlaces_next (framePlaces_ite _ places (framePlaces_expireSession places))
  | deviceIdent tag check => exact nextKeepsPlaces_write (fun _ before => before) places
  | deviceConfigRead tag check => exact nextKeepsPlaces_write (fun _ before => before) places
  | deviceConfigWrite tag check hold idle required m3 m2 m1 m0 =>
    exact nextKeepsPlaces_write (fun _ => framePlaces_deviceConfigWrite tag hold idle required m3 m2 m1 m0) places
  | softResetRoutes tag check => exact nextKeepsPlaces_write (fun u _ => framePlaces_softResetRoutes tag u) places
  | softResetAll tag check => exact nextKeepsPlaces_write (fun u _ => framePlaces_softResetAll tag u) places
  | editOpen tag check => exact nextKeepsPlaces_write (fun _ => framePlaces_editOpen tag) places
  | editStage tag check token slot action entry =>
    exact nextKeepsPlaces_write
      (fun _ before => framePlaces_ite _ (framePlaces_editStage tag token slot action entry before) before) places
  | editUnstage tag check token slot =>
    exact nextKeepsPlaces_write (fun _ => framePlaces_editUnstage tag token slot) places
  | editList tag check token => exact nextKeepsPlaces_write (fun _ => framePlaces_editList tag token) places
  | editCommit tag check token => exact nextKeepsPlaces_write (fun _ => framePlaces_editCommit tag token) places
  | editAbandon tag check token => exact nextKeepsPlaces_write (fun _ => framePlaces_editAbandon tag token) places
  | routeHold tag check slot => exact nextKeepsPlaces_write (fun _ => framePlaces_routeHold tag slot) places
  | routeResume tag check slot => exact nextKeepsPlaces_write (fun _ => framePlaces_routeResume tag slot) places
  | routeRelease tag check slot => exact nextKeepsPlaces_write (fun _ => framePlaces_routeRelease tag slot) places
  | routeRead tag check slot => exact nextKeepsPlaces_write (fun _ => framePlaces_routeRead tag slot) places
  | routeFindVirtual tag check formAndUpper lower =>
    exact nextKeepsPlaces_write (fun _ => framePlaces_routeFindVirtual tag formAndUpper lower) places
  | routeFindTarget tag check segment target =>
    exact nextKeepsPlaces_write (fun _ => framePlaces_routeFindTarget tag segment target) places
  | segmentConfig tag check segment enable speed lowLimit retry alert =>
    exact nextKeepsPlaces_write
      (fun _ => framePlaces_segmentConfig tag segment enable speed lowLimit retry alert) places
  | segmentClear tag check segment =>
    exact nextKeepsPlaces_write (fun _ => framePlaces_segmentClear tag segment) places
  | segmentStatus tag check segment =>
    exact nextKeepsPlaces_write (fun _ => framePlaces_segmentStatus tag segment) places
  | segmentDiscover tag check segment =>
    exact nextKeepsPlaces_write (fun _ => framePlaces_segmentDiscover tag segment) places
  | discoverCancel tag check segment =>
    exact nextKeepsPlaces_write (fun _ => framePlaces_discoverCancel tag segment) places
  | presenceRead tag check segment =>
    exact nextKeepsPlaces_write (fun _ => framePlaces_presenceRead tag segment) places
  | attentionSummary tag check => exact nextKeepsPlaces_write (fun _ before => before) places
  | attentionRead tag check kind number =>
    exact nextKeepsPlaces_write (fun _ => framePlaces_attentionRead tag kind number) places
  | attentionAck tag check kind number stamp high low =>
    exact nextKeepsPlaces_write (fun _ => framePlaces_attentionAck tag kind number stamp high low) places
  | targetAddressAnswer seg ack => exact nextKeepsPlaces_running (fun _ => places_takeAddressAnswer seg ack) places
  | cutThroughByteAnswer seg ack => exact nextKeepsPlaces_running (fun _ => places_takeCtAnswer seg ack) places
  | readByteClocked seg byte => exact nextKeepsPlaces_running (fun _ => places_takeReadByte seg byte) places
  | frameOutByteAnswer seg ack => exact nextKeepsPlaces_running (fun _ => places_takeFrameOutAnswer seg ack) places
  | deliveryAddressAnswer seg ack =>
    exact nextKeepsPlaces_running (fun _ => places_takeDeliveryAddress seg ack) places
  | deliveryByteAnswer seg ack => exact nextKeepsPlaces_running (fun _ => places_takeDeliveryByte seg ack) places
  | probeAnswer seg ack => exact nextKeepsPlaces_running (fun _ => places_takeProbeAnswer seg ack) places
  | identifyAddressAnswer seg ack =>
    exact nextKeepsPlaces_running (fun _ => places_takeIdentifyAddress seg ack) places
  | identifyDataByte seg byte => exact nextKeepsPlaces_running (fun _ => places_takeIdentifyByte seg byte) places
  | segmentStopComplete seg => exact nextKeepsPlaces_running (fun _ => places_takeStopComplete seg) places
  | arbitrationLoss seg => exact nextKeepsPlaces_running (fun _ => places_takeArbitrationLoss seg) places
  | segmentLowTimeout seg => exact nextKeepsPlaces_running (fun _ => places_takeLowTimeout seg) places
  | recoveryPulse seg sdaHigh stopRose =>
    exact nextKeepsPlaces_running (fun _ => places_takePulse seg sdaHigh stopRose) places
  | recoveryLowLimit seg => exact nextKeepsPlaces_guarded (fun _ => places_failRecovery seg) places
  | busFreeTime seg => exact nextKeepsPlaces_running (fun _ => places_takeFree seg) places
  | externalStart seg => exact nextKeepsPlaces_running (fun _ => places_takeExternalStart seg) places
  | externalStop seg => exact nextKeepsPlaces_running (fun _ => places_takeFree seg) places
  | segmentAlertFall seg =>
    exact nextKeepsPlaces_next (framePlaces_ite _ (framePlaces_setSeg rfl places) (places_takeAlertFall seg places))
  | segmentAlertRise seg => exact nextKeepsPlaces_next (places_takeAlertRise seg places)
  | deviceReset => exact nextKeepsPlaces_next (framePlaces_ite _ places (framePlaces_beginReset s))
  | deviceResetEnd adr1 adr0 => exact nextKeepsPlaces_next (framePlaces_ite _ (framePlaces_endReset adr1 adr0 s) places)

theorem framePlaces_tick {s : State} (places : FramePlaces s) : FramePlaces s.tick := by
  refine PlacesOk.within (new := s.tick.segs) places fun g => ?_
  rw [State.tick, PerSegment.get_map]
  exact List.Sublist.refl _

/-- Settles O58: every row keeps where the frames stand, and so does 1 ms without one. -/
theorem stepKeepsFramePlaces : Obligations.StepKeepsFramePlaces := by
  intro s t places stepped
  unfold step at stepped
  split at stepped
  next => exact nextKeepsPlaces_next (framePlaces_tick places) t stepped
  next c rest _ => exact nextKeepsPlaces_exec c (s := { s with pending := rest }) places t stepped

end Sys2Proof.FramePool
end

section
/-! PROOF. Segments on the downstream side: SEGMENT_STATUS and PRESENCE_READ, the rows of a segment's lines, device
reset, and SEGMENT_CONFIG. -/

namespace Sys2Proof.DownstreamSegments

open Sys2Proof Sys2Proof.Machine Sys2Proof.Safety Sys2Proof.RoutedTransactions

/-! ### Bytes and member sets (R192, R193, R195) -/

theorem boolByte_eq (b : Bool) : boolByte b = BitVec.ofNat 8 (if b then 1 else 0) := by
  cases b <;> rfl

theorem speedCode_eq (v : Speed) : v.code = BitVec.ofNat 8 (if decide (v = .khz400) then 1 else 0) := by
  cases v <;> rfl

theorem addrByte_eq (a : Addr7) : a.setWidth 8 = BitVec.ofNat 8 a.toNat := (BitVec.ofNat_toNat 8 a).symm

theorem claimBits_eq (n : Nat) : 0x80 ||| (byteOf n &&& 3) = BitVec.ofNat 8 (0x80 + n % 4) := by
  have marked : ∀ b : Byte, 0x80 ||| (b &&& 3) = BitVec.ofNat 8 (0x80 + b.toNat % 4) := by decide
  have low : n % 256 % 4 = n % 4 := Nat.mod_mod_of_dvd n (by decide)
  rw [marked, byteOf, BitVec.toNat_ofNat, low]

theorem twoBits_eq (a b : Bool) :
    boolByte a ||| (boolByte b <<< 1) = BitVec.ofNat 8 ((if a then 1 else 0) + 2 * (if b then 1 else 0)) := by
  cases a <;> cases b <;> rfl

theorem setByte_concat (members : List Bool) (b : Bool) :
    setByte (members ++ [b]) = (setByte members <<< 1) ||| boolByte b := by
  simp [setByte]

theorem setByte_reverse_getLsbD (bits : List Bool) (j : Nat) (inByte : j < 8) :
    (setByte bits.reverse).getLsbD j = bits[j]?.getD false := by
  induction bits generalizing j with
  | nil => simp [setByte]
  | cons b bits ih =>
    rw [List.reverse_cons, setByte_concat]
    cases j with
    | zero => cases b <;> simp [boolByte]
    | succ j =>
      have within : j < 8 := by omega
      have earlier := ih j within
      cases b <;> simpa [boolByte, inByte, within] using earlier

/-- The last member of a byte stands at bit 0, the one before it at bit 1, and so on (R192). -/
theorem setByte_getLsbD (members : List Bool) (j : Nat) (inByte : j < 8) :
    (setByte members).getLsbD j = members.reverse[j]?.getD false := by
  rw [← setByte_reverse_getLsbD members.reverse j inByte, List.reverse_reverse]

theorem packSet_length (n : Nat) (members : List Bool) : (packSet n members).length = n := by
  induction n generalizing members with
  | zero => rfl
  | succ n ih => exact congrArg (· + 1) (ih _)

/-- Member k of a set stands in byte k / 8, at bit 7 - (k mod 8) (R192). -/
theorem packSet_getLsbD (n : Nat) (members : List Bool) (k : Nat) (full : members.length = 8 * n) (member : k < 8 * n) :
    ((packSet n members)[k / 8]?.getD 0).getLsbD (7 - k % 8) = members[k]?.getD false := by
  induction n generalizing members k with
  | zero => omega
  | succ n ih =>
    by_cases first : k < 8
    · have here : k / 8 = 0 := by omega
      have eight : (members.take 8).length = 8 := by simp; omega
      have place : (members.take 8).length - 1 - (7 - k % 8) = k := by omega
      rw [here, packSet, List.getElem?_cons_zero, Option.getD_some, setByte_getLsbD _ _ (by omega),
        List.getElem?_reverse (by omega), place, List.getElem?_take_of_lt first]
    · have later : k / 8 = (k - 8) / 8 + 1 := by omega
      have bit : k % 8 = (k - 8) % 8 := by omega
      have back : 8 + (k - 8) = k := by omega
      rw [packSet, later, bit, List.getElem?_cons_succ, ih (members.drop 8) (k - 8) (by simp; omega) (by omega),
        List.getElem?_drop, back]

/-! ### SEGMENT_STATUS and PRESENCE_READ (R142, R148) -/

theorem presenceSet_length (x : Segment) (v : Presence) : (x.presenceSet v).length = 14 := packSet_length 14 _

theorem presenceSet_getLsbD (x : Segment) (v : Presence) (k : Fin 112) :
    ((x.presenceSet v)[k.val / 8]?.getD 0).getLsbD (7 - k.val % 8) = decide (x.presence[k] = v) := by
  rw [Segment.presenceSet, packSet_getLsbD 14 _ k.val (by simp) k.isLt]
  simp

theorem encode_eq (c : SegConfig) :
    c.encode = [BitVec.ofNat 8 (if c.enable then 1 else 0),
      BitVec.ofNat 8 (if decide (c.speed = .khz400) then 1 else 0),
      BitVec.ofNat 8 c.lowLimit, BitVec.ofNat 8 c.retry, BitVec.ofNat 8 c.alertAddr.toNat] := by
  simp only [SegConfig.encode, boolByte_eq, speedCode_eq, addrByte_eq, byteOf]

theorem kindByte_eq (x : Segment) :
    x.kindByte = if x.state ≠ .owned then 0 else match x.down.map Down.work with
      | none => 0
      | some (.routed _) => 1
      | some (.delivery _ _ _) => 2
      | some (.probe _) => 3
      | some (.identify _ _) => 4 := by
  by_cases owned : x.state = .owned
  · cases down : x.down with
    | none => simp [Segment.kindByte, owned, down]
    | some d => cases work : d.work <;> simp [Segment.kindByte, owned, down, work, Work.code]
  · simp [Segment.kindByte, owned]

theorem claimByte_eq (x : Segment) :
    x.claimByte = match x.claim with
      | none => 0
      | some c => BitVec.ofNat 8 (0x80 + c.loss % 4) := by
  unfold Segment.claimByte
  cases x.claim with
  | none => rfl
  | some c => exact claimBits_eq c.loss

theorem cursorByte_eq (x : Segment) :
    (x.cursor.getD 0).setWidth 8 = match x.cursor with
      | none => 0
      | some c => BitVec.ofNat 8 c.toNat := by
  cases cursor : x.cursor with
  | none => rfl
  | some c => exact addrByte_eq c

theorem withSeg_seg (s : State) (tag : Byte) (g : Seg) (command : Seg → State) :
    s.withSeg tag (segByte g) command = command g := by
  simp only [State.withSeg, segOfByte_seg]

theorem withSeg_big (s : State) (tag segment : Byte) (command : Seg → State) (big : 3 < segment.toNat) :
    s.withSeg tag segment command = s.badArgument tag .segment := by
  simp only [State.withSeg, segOfByte_big segment big]

theorem exec_segmentStatus (tag : Byte) (check : Option Byte) (segment : Byte) (s : State)
    (takes : Takes s 0x32 tag check [segment]) : ∃ p, exec (.segmentStatus tag check segment) s =
      .next (cmdSegmentStatus tag segment (withPort s p)).toIdle :=
  ⟨_, congrArg Host.Outcome.next (managementWrite_takes s 0x32 tag check [segment] _ (by decide) (by simp) takes)⟩

theorem exec_presenceRead (tag : Byte) (check : Option Byte) (segment : Byte) (s : State)
    (takes : Takes s 0x35 tag check [segment]) : ∃ p, exec (.presenceRead tag check segment) s =
      .next (cmdPresenceRead tag segment (withPort s p)).toIdle :=
  ⟨_, congrArg Host.Outcome.next (managementWrite_takes s 0x35 tag check [segment] _ (by decide) (by simp) takes)⟩

/-- Settles O27: the bytes of SEGMENT_STATUS one by one, and the two sets of PRESENCE_READ by their members. -/
theorem segmentStatusAndPresenceAnswer : Obligations.SegmentStatusAndPresenceAnswer := by
  refine ⟨fun tag check segment s takes => ?_, fun tag check segment s takes => ?_⟩
  · obtain ⟨p, runs⟩ := exec_segmentStatus tag check segment s takes
    refine ⟨fun big => ?_, fun g named => ?_⟩
    · rw [runs, cmdSegmentStatus, withSeg_big _ _ _ _ big]
      rfl
    · subst named
      rw [runs, cmdSegmentStatus, withSeg_seg]
      have same : (withPort s p).statusData g = s.statusData g := rfl
      rw [same]
      simp only [State.statusData, kindByte_eq, claimByte_eq, cursorByte_eq, twoBits_eq, encode_eq, byteOf]
      rfl
  · obtain ⟨p, runs⟩ := exec_presenceRead tag check segment s takes
    refine ⟨fun big => ?_, fun g named => ?_⟩
    · rw [runs, cmdPresenceRead, withSeg_big _ _ _ _ big]
      rfl
    · subst named
      refine ⟨(s.seg g).presenceSet .present, (s.seg g).presenceSet .absent, presenceSet_length _ _,
        presenceSet_length _ _, ?_, fun k => ⟨presenceSet_getLsbD _ _ k, presenceSet_getLsbD _ _ k⟩⟩
      rw [runs, cmdPresenceRead, withSeg_seg]
      rfl

/-! ### The lines of a segment (R128, R145, R154, R155) -/

/-- Settles O51: each row out of device reset is its event. -/
theorem segmentLines : Obligations.SegmentLines := by
  intro s g running
  have stands : ¬ s.inReset = true := by simp [running]
  exact ⟨congrArg Host.Outcome.next (running_eq s _ running), congrArg Host.Outcome.next (running_eq s _ running),
    congrArg Host.Outcome.next (running_eq s _ running), congrArg Host.Outcome.next (if_neg stands), rfl⟩

/-! ### Device reset (R203 to R205) -/

theorem beginReset_eq (s : State) :
    s.beginReset = { State.reset with
      inReset := true
      mgmtAddr := s.mgmtAddr
      att := Attention.clear
      segs := ⟨Segment.reset (s.seg .a).alertLow, Segment.reset (s.seg .b).alertLow,
        Segment.reset (s.seg .c).alertLow, Segment.reset (s.seg .d).alertLow⟩
      pending := s.pending } := rfl

theorem strappedAddress_eq (adr1 adr0 : Bool) :
    (0x5C + (if adr1 then 2 else 0) + (if adr0 then 1 else 0) : Addr7) =
      BitVec.ofNat 7 (0x5C + 2 * adr1.toNat + adr0.toNat) := by
  cases adr1 <;> cases adr0 <;> rfl

theorem endReset_eq (s : State) (adr1 adr0 : Bool) :
    s.endReset adr1 adr0 = { State.reset with
      mgmtAddr := BitVec.ofNat 7 (0x5C + 2 * adr1.toNat + adr0.toNat)
      segs := ⟨Segment.reset (s.seg .a).alertLow, Segment.reset (s.seg .b).alertLow,
        Segment.reset (s.seg .c).alertLow, Segment.reset (s.seg .d).alertLow⟩
      pending := s.pending } := by
  have occurred : Attention.clear.device.raise DeviceFlag.resetOccurred.bit = { flags := 1, stamp := 1 } := by decide
  rw [State.endReset, strappedAddress_eq]
  simp only [State.raiseDevice, State.setDeviceOwner, State.blank, occurred]
  rfl

theorem running_inReset (s : State) (event : State → State) (reset : s.inReset = true) : s.running event = s :=
  if_pos reset

theorem managementWrite_inReset (s : State) (frame : List Byte) (command : State → State) (reset : s.inReset = true) :
    s.managementWrite frame command = s :=
  if_pos (.inl reset)

/-- While device reset lasts a row of the part recognises nothing, and a management write is not taken (R203, R204). -/
theorem exec_inReset (c : Instr) (s : State) (reset : s.inReset = true) (noEnd : ∀ x y, c ≠ .deviceResetEnd x y)
    (noAlert : ∀ g, c ≠ .segmentAlertFall g ∧ c ≠ .segmentAlertRise g) : exec c s = .next s := by
  cases c with
  | deviceResetEnd x y => exact absurd rfl (noEnd x y)
  | segmentAlertFall g => exact absurd rfl (noAlert g).1
  | segmentAlertRise g => exact absurd rfl (noAlert g).2
  | deviceReset | editExpiry => exact congrArg Host.Outcome.next (if_pos reset)
  | start | repeatedStart | stop | misplacedCondition | addressByte | tenBitFirstByte | tenBitSecondByte
  | tenBitReadForm | mgmtWriteByte | mgmtReadByte | postedFillByte | cutThroughDataByte | readDataAck
  | holdLimitExpiry | upstreamLowTimeout | targetAddressAnswer | cutThroughByteAnswer | readByteClocked
  | frameOutByteAnswer | deliveryAddressAnswer | deliveryByteAnswer | probeAnswer | identifyAddressAnswer
  | identifyDataByte | segmentStopComplete | arbitrationLoss | segmentLowTimeout | recoveryPulse | recoveryLowLimit
  | busFreeTime | externalStart | externalStop =>
    exact congrArg Host.Outcome.next (running_inReset s _ reset)
  | deviceIdent | deviceConfigRead | deviceConfigWrite | softResetRoutes | softResetAll | editOpen | editStage
  | editUnstage | editList | editCommit | editAbandon | routeHold | routeResume | routeRelease | routeRead
  | routeFindVirtual | routeFindTarget | segmentConfig | segmentClear | segmentStatus | segmentDiscover
  | discoverCancel | presenceRead | attentionSummary | attentionRead | attentionAck =>
    exact congrArg Host.Outcome.next (managementWrite_inReset s _ _ reset)

/-- Settles O5: the state at the beginning and at the end of device reset, and what stands between them. -/
theorem deviceResetBeginsAndEnds : Obligations.DeviceResetBeginsAndEnds := by
  refine ⟨fun s => ⟨fun reset => congrArg Host.Outcome.next (if_pos reset), fun running => ?_⟩,
    fun s adr1 adr0 => ⟨fun running => ?_, fun reset => ?_⟩, exec_inReset, fun s g reset => ⟨?_, rfl⟩⟩
  · have stands : ¬ s.inReset = true := by simp [running]
    exact ⟨s.beginReset, congrArg Host.Outcome.next (if_neg stands), rfl, beginReset_eq s⟩
  · have stands : ¬ s.inReset = true := by simp [running]
    exact congrArg Host.Outcome.next (if_neg stands)
  · exact (congrArg Host.Outcome.next (if_pos reset)).trans (congrArg Host.Outcome.next (endReset_eq s adr1 adr0))
  · exact congrArg Host.Outcome.next (if_pos reset)

/-! ### Leaving service and the upstream port (R126)

Leaving service answers on the upstream port, and looks there for a withheld acknowledge that is deferred. With none
withheld its result does not depend on the port otherwise. -/

theorem eq_withPort_of_toIdle (s t : State) (same : s.toIdle = t.toIdle) : s = withPort t s.port :=
  show withPort s.toIdle s.port = withPort t.toIdle s.port from congrArg (withPort · s.port) same

theorem wait_withdrawAt (s : State) (g : Seg) (free : s.port.wait = none) :
    (s.withdrawAt g).port.wait = none := by
  have withdrawn (u : State) (dropTen : Bool) (i : SlotId) : ((u.nackUp dropTen).examine i false).port.wait = none := by
    rw [nackUp_eq_withPort, examine_withPort]
    rfl
  cases current : s.txn with
  | none => simpa only [State.withdrawAt, State.abortWaiting, current] using free
  | some t =>
    simp only [State.withdrawAt, State.abortWaiting, current]
    split
    · exact withdrawn _ _ _
    · exact free

@[simp] theorem lostFrames_withPort (s : State) (p : Port) (i : SlotId) :
    (withPort s p).lostFrames i = withPort (s.lostFrames i) p := by
  simp [State.lostFrames]

theorem foldl_lostFrames_withPort (slots : List SlotId) (s : State) (p : Port) :
    slots.foldl State.lostFrames (withPort s p) = withPort (slots.foldl State.lostFrames s) p := by
  induction slots generalizing s with
  | nil => rfl
  | cons i slots ih => rw [List.foldl_cons, lostFrames_withPort, ih, List.foldl_cons]

theorem purgeSegment_withPort (s : State) (p : Port) (g : Seg) :
    (withPort s p).purgeSegment g = withPort (s.purgeSegment g) p := by
  have owners : (withPort s p).queueOwners g = s.queueOwners g := rfl
  simp only [State.purgeSegment, owners, seg_withPort, setSeg_withPort, clearFrames_withPort, foldl_lostFrames_withPort]

theorem port_purgeSegment (s : State) (g : Seg) : (s.purgeSegment g).port = s.port := by
  have kept : s.purgeSegment g = withPort (s.purgeSegment g) s.port := purgeSegment_withPort s s.port g
  rw [kept]
  rfl

theorem orphanFill_withPort (s : State) (p : Port) (g : Seg) (free : s.port.wait = none) (free' : p.wait = none) :
    (withPort s p).orphanFill g = withPort (s.orphanFill g) p := by
  have port : (withPort s p).port = p := rfl
  cases filled : s.fill with
  | none => simp only [State.orphanFill, fill_withPort, filled]
  | some f => simp only [State.orphanFill, fill_withPort, filled, port, free, free', frame_withPort, setFrame_withPort,
      ite_withPort]

theorem abortDiscovery_withPort (s : State) (p : Port) (g : Seg) :
    (withPort s p).abortDiscovery g = withPort (s.abortDiscovery g) p := by
  simp only [State.abortDiscovery, seg_withPort, ite_withPort]
  rfl

/-- The segment that leaves service taken off its lines, in the state it enters (R126). -/
def offLines (s : State) (g : Seg) (into : SegState) : State :=
  s.setSeg g { s.seg g with state := into, down := none, busFree := none, low := none }

/-- What is left of a segment's claims, cursor, map and recovery cleared (R126). -/
def emptied (s : State) (g : Seg) : State :=
  s.setSeg g { s.seg g with claim := none, fair := 0, cursor := none, presence := Presence.cleared, attempt := 0,
                            pulses := 0 }

theorem leaveService_eq (s : State) (g : Seg) (into : SegState) :
    s.leaveService g into =
      emptied (((((offLines s g into).withdrawAt g).purgeSegment g).orphanFill g).abortDiscovery g) g := rfl

theorem leaveService_withPort_toIdle (s : State) (p : Port) (g : Seg) (into : SegState) (free : s.port.wait = none)
    (free' : p.wait = none) : ((withPort s p).leaveService g into).toIdle = (s.leaveService g into).toIdle := by
  have off : offLines (withPort s p) g into = withPort (offLines s g into) p := rfl
  have withdrawn : (withPort (offLines s g into) p).withdrawAt g = withPort ((offLines s g into).withdrawAt g) _ :=
    eq_withPort_of_toIdle _ _ (abortWaiting_withPort_toIdle _ p _)
  have waits : (((offLines s g into).withdrawAt g).purgeSegment g).port.wait = none := by
    rw [port_purgeSegment]
    exact wait_withdrawAt (offLines s g into) g free
  have waits' := wait_withdrawAt (withPort (offLines s g into) p) g free'
  rw [leaveService_eq, leaveService_eq, off, withdrawn, purgeSegment_withPort, orphanFill_withPort _ _ _ waits waits',
    abortDiscovery_withPort]
  rfl

/-! ### SEGMENT_CONFIG (R123 to R125, R127, R201) -/

theorem isTarget_iff : ∀ b : Byte, (b.getLsbD 7 = true ∨ isTarget (b.setWidth 7) = false) ↔
    (b.toNat < 0x08 ∨ 0x77 < b.toNat) := by
  decide

theorem parseSegConfig_eq (en sp low retry alert : Byte) :
    parseSegConfig en sp low retry alert =
      if 1 < en.toNat then .error .enable
      else if 1 < sp.toNat then .error .speed
      else if low.toNat < 10 ∨ 40 < low.toNat then .error .lowLimit
      else if 3 < retry.toNat then .error .retry
      else if alert ≠ 0 ∧ (alert.toNat < 0x08 ∨ 0x77 < alert.toNat) then .error .alertAddress
      else .ok { enable := en = 1, speed := if sp = 1 then .khz400 else .khz100, lowLimit := low.toNat,
                 retry := retry.toNat, alertAddr := BitVec.ofNat 7 alert.toNat } := by
  simp only [parseSegConfig, BitVec.lt_def, isTarget_iff, BitVec.ofNat_toNat]
  rfl

/-- A configuration made the active one, with no next one held (R123). -/
def installed (s : State) (g : Seg) (c : SegConfig) : State := s.setSeg g { s.seg g with cfg := c, next := none }

theorem installed_withPort (s : State) (p : Port) (g : Seg) (c : SegConfig) :
    installed (withPort s p) g c = withPort (installed s g c) p := rfl

theorem installed_state (s : State) (g : Seg) (c : SegConfig) : ((installed s g c).seg g).state = (s.seg g).state := by
  simp [installed]

/-- A segment taken into service, which waits for the bus-free time unless its lines are in use (R125, R128). -/
theorem install_enables (s : State) (g : Seg) (c : SegConfig) (disabled : (s.seg g).state = .disabled)
    (enable : c.enable = true) : s.install g c = s.setSeg g { s.seg g with
      cfg := c, next := none, state := .external, idCount := 0, low := none
      busFree := if (s.seg g).down = none then some 0 else none } := by
  simp only [State.install, disabled, enable, if_true, seg_setSeg_same, setSeg_setSeg, Segment.enabled,
    Option.isNone_iff_eq_none]

theorem install_stays (s : State) (g : Seg) (c : SegConfig)
    (stays : c.enable = decide ((s.seg g).state ≠ .disabled)) : s.install g c = installed s g c := by
  by_cases disabled : (s.seg g).state = .disabled <;> simp [State.install, installed, stays, disabled]

theorem install_leaves (s : State) (g : Seg) (c : SegConfig) (inUse : (s.seg g).state ≠ .disabled)
    (off : c.enable = false) : s.install g c = (installed s g c).leaveService g .disabled := by
  simp [State.install, installed, inUse, off]

/-- What a configuration that passes does to the part, with the answer: installed at once, or held (R123 to R125,
R127). -/
def configured (s : State) (g : Seg) (tag : Byte) (c : SegConfig) : State :=
  match (s.seg g).state with
  | .external | .owned | .recovering =>
    answered (s.setSeg g { s.seg g with next := some c }) .ok tag [segByte g, 1, (s.seg g).state.code]
  | .disabled =>
    if c.enable then answered (s.setSeg g { s.seg g with
        cfg := c, next := none, state := .external, idCount := 0, low := none
        busFree := if (s.seg g).down = none then some 0 else none }) .ok tag [segByte g, 0, 2]
    else answered (installed s g c) .ok tag [segByte g, 0, 0]
  | .faulted =>
    if c.enable then answered (installed s g c) .ok tag [segByte g, 0, 5]
    else answered ((installed s g c).leaveService g .disabled) .ok tag [segByte g, 0, 0]
  | .idle =>
    if c.enable then answered ((installed s g c).arbitrate g) .ok tag
      [segByte g, 0, (((installed s g c).arbitrate g).seg g).state.code]
    else answered ((installed s g c).leaveService g .disabled) .ok tag [segByte g, 0, 0]

theorem exec_segmentConfig (tag : Byte) (check : Option Byte) (segment en sp low retry alert : Byte) (s : State)
    (takes : Takes s 0x30 tag check [segment, en, sp, low, retry, alert]) : ∃ p : Port, p.wait = none ∧
      exec (.segmentConfig tag check segment en sp low retry alert) s =
        .next (cmdSegmentConfig tag segment en sp low retry alert (withPort s p)).toIdle :=
  ⟨_, rfl, congrArg Host.Outcome.next
    (managementWrite_takes s 0x30 tag check [segment, en, sp, low, retry, alert] _ (by decide) (by simp) takes)⟩

/-- The answer of a segment that the arbiter leaves alone, with its state (R201). -/
theorem answer_outOfIdle (s : State) (p : Port) (g : Seg) (tag : Byte) (state : SegState)
    (stands : (s.seg g).state = state) (busy : state ≠ .idle) :
    (((withPort s p).arbitrate g).respondConfig tag g 0).toIdle =
      answered s .ok tag [segByte g, 0, state.code] := by
  rw [arbitrate_withPort, arbitrate_busy _ _ (stands ▸ busy), State.respondConfig, seg_withPort, stands]
  rfl

/-- A segment disabled by its configuration has left service before the answer. -/
theorem answer_leaves (s : State) (p : Port) (g : Seg) (tag : Byte) (free : s.port.wait = none)
    (free' : p.wait = none) : ((((withPort s p).leaveService g .disabled).arbitrate g).respondConfig tag g 0).toIdle =
      answered (s.leaveService g .disabled) .ok tag [segByte g, 0, 0] := by
  have disabled : ((s.leaveService g .disabled).seg g).state = .disabled := by simp [State.seg]
  rw [eq_withPort_of_toIdle _ _ (leaveService_withPort_toIdle s p g .disabled free free'),
    answer_outOfIdle _ _ g tag .disabled disabled (by decide)]
  rfl

theorem config_installs (s : State) (p : Port) (g : Seg) (tag : Byte) (c : SegConfig) (free : s.port.wait = none)
    (free' : p.wait = none) (atOnce : (s.seg g).state.installsAtOnce = true) :
    ((((withPort s p).install g c).arbitrate g).respondConfig tag g 0).toIdle = configured s g tag c := by
  have leaves := answer_leaves (installed s g c) p g tag free free'
  cases state : (s.seg g).state with
  | external | owned | recovering => simp [state, SegState.installsAtOnce] at atOnce
  | disabled =>
    cases enable : c.enable with
    | true =>
      rw [install_enables (withPort s p) g c state enable, seg_withPort, setSeg_withPort,
        answer_outOfIdle _ p g tag .external (by simp) (by decide)]
      simp [configured, state, enable, SegState.code]
    | false =>
      rw [install_stays _ g c (by simp [state, enable]), installed_withPort,
        answer_outOfIdle _ p g tag .disabled ((installed_state s g c).trans state) (by decide)]
      simp [configured, state, enable, SegState.code]
  | faulted =>
    cases enable : c.enable with
    | true =>
      rw [install_stays _ g c (by simp [state, enable]), installed_withPort,
        answer_outOfIdle _ p g tag .faulted ((installed_state s g c).trans state) (by decide)]
      simp [configured, state, enable, SegState.code]
    | false =>
      rw [install_leaves _ g c (by simp [state]) enable, installed_withPort, leaves]
      simp [configured, state, enable]
  | idle =>
    cases enable : c.enable with
    | true =>
      rw [install_stays _ g c (by simp [state, enable]), installed_withPort, arbitrate_withPort]
      simp only [configured, state, enable, if_true]
      rfl
    | false =>
      rw [install_leaves _ g c (by simp [state]) enable, installed_withPort, leaves]
      simp [configured, state, enable]

theorem config_isHeld (s : State) (p : Port) (g : Seg) (tag : Byte) (c : SegConfig)
    (later : (s.seg g).state.installsAtOnce = false) :
    (((withPort s p).setSeg g { s.seg g with next := some c }).respondConfig tag g 1).toIdle =
      configured s g tag c := by
  cases state : (s.seg g).state with
  | disabled | faulted | idle => simp [state, SegState.installsAtOnce] at later
  | external | owned | recovering =>
    simp only [configured, state, State.respondConfig, seg_setSeg_same]
    rfl

/-- The answer to a configuration, or to the first field that fails (R123, R178). -/
def configAnswer (s : State) (g : Seg) (tag : Byte) : Except Field SegConfig → State
  | .error f => answered s .badArgument tag [f.code]
  | .ok c => configured s g tag c

theorem exec_segmentConfig_parsed (tag : Byte) (check : Option Byte) (g : Seg) (en sp low retry alert : Byte) (s : State)
    (takes : Takes s 0x30 tag check [segByte g, en, sp, low, retry, alert]) (free : s.port.wait = none) :
    exec (.segmentConfig tag check (segByte g) en sp low retry alert) s =
      .next (configAnswer s g tag (parseSegConfig en sp low retry alert)) := by
  obtain ⟨p, free', runs⟩ := exec_segmentConfig tag check (segByte g) en sp low retry alert s takes
  rw [runs, cmdSegmentConfig, withSeg_seg]
  cases parseSegConfig en sp low retry alert with
  | error f => rfl
  | ok c =>
    cases atOnce : (s.seg g).state.installsAtOnce with
    | true =>
      simp only [seg_withPort, atOnce, if_true]
      exact congrArg Host.Outcome.next (config_installs s p g tag c free free' atOnce)
    | false =>
      simp only [seg_withPort, atOnce, Bool.false_eq_true, if_false]
      exact congrArg Host.Outcome.next (config_isHeld s p g tag c atOnce)

/-- The laws of the part have no acknowledge withheld in IDLE (R62). -/
theorem wait_none_of_idle (s : State) (agree : PortAndFillAgree s) (idle : s.port.state = .idle) :
    s.port.wait = none := by
  obtain ⟨_, _, waitsInAddress, _⟩ := agree
  cases wait : s.port.wait with
  | none => rfl
  | some w => simpa [idle] using waitsInAddress (by simp [wait])

/-- What SEGMENT_CONFIG does where the laws of the port and the fill position hold: the fields in their order, then the
configuration that passes (R123 to R125, R127, R201). -/
theorem segmentConfig_of_portAndFillAgree (tag : Byte) (check : Option Byte) (g : Seg) (en sp low retry alert : Byte)
    (s : State) (takes : Takes s 0x30 tag check [segByte g, en, sp, low, retry, alert]) (agree : PortAndFillAgree s) :
    exec (.segmentConfig tag check (segByte g) en sp low retry alert) s = .next
      (if 1 < en.toNat then answered s .badArgument tag [0x0B]
      else if 1 < sp.toNat then answered s .badArgument tag [0x0C]
      else if low.toNat < 10 ∨ 40 < low.toNat then answered s .badArgument tag [0x0D]
      else if 3 < retry.toNat then answered s .badArgument tag [0x0E]
      else if alert ≠ 0 ∧ (alert.toNat < 0x08 ∨ 0x77 < alert.toNat) then answered s .badArgument tag [0x0F]
      else configured s g tag
        { enable := en = 1, speed := if sp = 1 then .khz400 else .khz100, lowLimit := low.toNat, retry := retry.toNat
          alertAddr := BitVec.ofNat 7 alert.toNat }) := by
  have ⟨_, idle, _⟩ := takes
  rw [exec_segmentConfig_parsed tag check g en sp low retry alert s takes (wait_none_of_idle s agree idle),
    parseSegConfig_eq]
  simp only [apply_ite (configAnswer s g tag)]
  rfl

/-! ### An IDLE port that withholds an acknowledge

The statement of SEGMENT_CONFIG has no law among its premises, and leaving service reads the withheld acknowledge of the
port as it was before the management write, which the write itself has put away. -/

/-- A part that the laws exclude: its port is IDLE and yet withholds the acknowledge of a deferred compound read, whose
frame stands in the fill position; segment A is FAULTED. -/
def idleWithheld : State :=
  { State.reset with
    segs := { State.reset.segs with a := { Segment.reset false with state := .faulted } }
    port := { Port.idle with wait := some { slot := 0, read := true, ten := none, deferred := true, compound := true } }
    fill := some { frame := 0, seg := .a } }

theorem idleWithheld_excluded : ¬ PortAndFillAgree idleWithheld := fun agree =>
  Option.some_ne_none _ (wait_none_of_idle idleWithheld agree rfl)

theorem idleWithheld_takes : Takes idleWithheld 0x30 1 none [segByte .a, 0, 0, 10, 0, 0] := ⟨rfl, rfl, rfl⟩

/-- The management write leaves nothing withheld, so segment A leaves service with the fill orphaned (R103). -/
theorem idleWithheld_orphans : ∃ t, exec (.segmentConfig 1 none (segByte .a) 0 0 10 0 0) idleWithheld = .next t ∧
    t.fill = some { frame := 0, seg := .a } :=
  ⟨_, rfl, by decide +kernel⟩

/-- The statement has segment A leave service under the withheld acknowledge, with the compound frame lost (R126). -/
theorem idleWithheld_loses (c : SegConfig) :
    ((installed idleWithheld .a c).leaveService .a .disabled).fill = none := rfl

/-- Refutes O24: a segment disabled from FAULTED under an acknowledge that an IDLE port still withholds keeps the fill,
orphaned, where the statement has it lost. Under the law of the port it holds (`segmentConfig_of_portAndFillAgree`). -/
theorem not_segmentConfigInstallsOrHolds : ¬ Obligations.SegmentConfigInstallsOrHolds := by
  intro holds
  obtain ⟨t, runs, orphaned⟩ := idleWithheld_orphans
  have stated := (holds 1 none (segByte .a) 0 0 10 0 0 idleWithheld idleWithheld_takes).2 .a rfl
  have same : t = _ := Host.Outcome.next.inj (runs.symm.trans stated)
  have lost : t.fill = none := by
    rw [same]
    exact idleWithheld_loses _
  rw [lost] at orphaned
  exact Option.some_ne_none _ orphaned.symm

end Sys2Proof.DownstreamSegments
end

section
/-! PROOF. Discovery: how SEGMENT_DISCOVER and DISCOVER_CANCEL answer, by the cursor and the state of the segment. -/

namespace Sys2Proof.Discovery

open Sys2Proof Sys2Proof.Machine Sys2Proof.Safety Sys2Proof.RoutedTransactions Sys2Proof.DownstreamSegments

/-! ### SEGMENT_DISCOVER (R149) -/

/-- A segment whose sweep starts: the cursor at 08h, the probe fairness count from 0, and the arbiter's run (R149). -/
def sweepStarted (s : State) (g : Seg) : State :=
  (s.setSeg g { s.seg g with cursor := some 0x08, fair := 0 }).arbitrate g

/-- The arbiter's run that follows does not depend on the upstream port. -/
theorem sweepStarted_withPort (s : State) (p : Port) (g : Seg) :
    sweepStarted (withPort s p) g = withPort (sweepStarted s g) p := by
  rw [sweepStarted, seg_withPort, setSeg_withPort, arbitrate_withPort, sweepStarted]

theorem cmdSegmentDiscover_busy (tag : Byte) (g : Seg) (s : State) (c : Addr7) (cursor : (s.seg g).cursor = some c) :
    cmdSegmentDiscover tag (segByte g) s = s.respond .busy tag [segByte g, BitVec.ofNat 8 c.toNat] := by
  simp only [cmdSegmentDiscover, withSeg_seg, cursor, addrByte_eq]

theorem cmdSegmentDiscover_starts (tag : Byte) (g : Seg) (s : State) (cursor : (s.seg g).cursor = none)
    (serves : (s.seg g).state.inService = true) :
    cmdSegmentDiscover tag (segByte g) s = (sweepStarted s g).respond .accepted tag [segByte g] := by
  simp only [cmdSegmentDiscover, withSeg_seg, cursor, serves, if_true]
  rfl

theorem cmdSegmentDiscover_wrongState (tag : Byte) (g : Seg) (s : State) (cursor : (s.seg g).cursor = none)
    (out : (s.seg g).state.inService = false) :
    cmdSegmentDiscover tag (segByte g) s = s.respond .wrongState tag [segByte g, (s.seg g).state.code] := by
  simp only [cmdSegmentDiscover, withSeg_seg, cursor, out, Bool.false_eq_true, if_false]

/-- After the management write: the answer of a sweep that starts, as without the write. -/
theorem discover_starts_toIdle (tag : Byte) (g : Seg) (s : State) (p : Port) (cursor : (s.seg g).cursor = none)
    (serves : (s.seg g).state.inService = true) :
    (cmdSegmentDiscover tag (segByte g) (withPort s p)).toIdle =
      answered (sweepStarted s g) .accepted tag [segByte g] := by
  rw [cmdSegmentDiscover_starts tag g (withPort s p) cursor serves, sweepStarted_withPort]
  exact respond_toIdle (sweepStarted s g) p _ _ _

/-- After the management write: the WRONG_STATE of a segment out of service. -/
theorem discover_wrongState_toIdle (tag : Byte) (g : Seg) (s : State) (p : Port) (cursor : (s.seg g).cursor = none)
    (out : (s.seg g).state.inService = false) :
    (cmdSegmentDiscover tag (segByte g) (withPort s p)).toIdle =
      answered s .wrongState tag [segByte g, (s.seg g).state.code] := by
  rw [cmdSegmentDiscover_wrongState tag g (withPort s p) cursor out]
  exact respond_toIdle s p _ _ _

theorem exec_segmentDiscover (tag : Byte) (check : Option Byte) (segment : Byte) (s : State)
    (takes : Takes s 0x33 tag check [segment]) : ∃ p, exec (.segmentDiscover tag check segment) s =
      .next (cmdSegmentDiscover tag segment (withPort s p)).toIdle :=
  ⟨_, congrArg Host.Outcome.next (managementWrite_takes s 0x33 tag check [segment] _ (by decide) (by simp) takes)⟩

/-! ### DISCOVER_CANCEL (R153) -/

/-- The segment after a cancel: no cursor, and the probe that runs, if any, without its sweep (R153). -/
def sweepCancelled (x : Segment) : Segment := { x with
  cursor := none, fair := 0
  down := x.down.map fun d => match d.work with
    | .probe _ => { d with work := .probe false }
    | _ => d }

theorem cancelSweep_eq (d : Down) :
    d.cancelSweep = match d.work with
      | .probe _ => { d with work := .probe false }
      | _ => d := by
  cases work : d.work <;> simp only [Down.cancelSweep, work]

theorem cmdDiscoverCancel_idle (tag : Byte) (g : Seg) (s : State) (cursor : (s.seg g).cursor = none) :
    cmdDiscoverCancel tag (segByte g) s = s.respond .wrongState tag [segByte g, (s.seg g).state.code] := by
  simp only [cmdDiscoverCancel, withSeg_seg, cursor]

theorem cmdDiscoverCancel_sweeping (tag : Byte) (g : Seg) (s : State) (c : Addr7)
    (cursor : (s.seg g).cursor = some c) :
    cmdDiscoverCancel tag (segByte g) s =
      ((s.setSeg g (sweepCancelled (s.seg g))).setSegOwner g (raised (s.segOwner g) 5)).respond .ok tag
        [segByte g, BitVec.ofNat 8 c.toNat] := by
  have cancels : Down.cancelSweep = _ := funext cancelSweep_eq
  simp only [cmdDiscoverCancel, withSeg_seg, cursor, addrByte_eq, cancels, State.raiseSeg, FramePool.raise_eq_raised]
  rfl

theorem exec_discoverCancel (tag : Byte) (check : Option Byte) (segment : Byte) (s : State)
    (takes : Takes s 0x34 tag check [segment]) : ∃ p, exec (.discoverCancel tag check segment) s =
      .next (cmdDiscoverCancel tag segment (withPort s p)).toIdle :=
  ⟨_, congrArg Host.Outcome.next (managementWrite_takes s 0x34 tag check [segment] _ (by decide) (by simp) takes)⟩

/-! ### The two commands -/

/-- Settles O28: SEGMENT_DISCOVER by the cursor and the state of the segment, DISCOVER_CANCEL by the cursor. -/
theorem discoveryStartsAndCancels : Obligations.DiscoveryStartsAndCancels := by
  refine fun tag check segment s => ⟨fun takes => ?_, fun takes => ?_⟩
  · obtain ⟨p, runs⟩ := exec_segmentDiscover tag check segment s takes
    refine ⟨fun big => ?_, fun g named => ?_⟩
    · rw [runs, cmdSegmentDiscover, withSeg_big _ _ _ _ big]
      rfl
    · subst named
      rw [runs]
      cases cursor : (s.seg g).cursor with
      | some c =>
        rw [cmdSegmentDiscover_busy tag g (withPort s p) c cursor]
        rfl
      | none =>
        have starts := discover_starts_toIdle tag g s p cursor
        have refuses := discover_wrongState_toIdle tag g s p cursor
        cases state : (s.seg g).state <;> rw [state] at starts refuses
        case idle | external | owned => exact congrArg _ (starts rfl)
        case recovering | faulted | disabled => exact congrArg _ (refuses rfl)
  · obtain ⟨p, runs⟩ := exec_discoverCancel tag check segment s takes
    refine ⟨fun big => ?_, fun g named => ?_⟩
    · rw [runs, cmdDiscoverCancel, withSeg_big _ _ _ _ big]
      rfl
    · subst named
      rw [runs]
      cases cursor : (s.seg g).cursor with
      | none =>
        rw [cmdDiscoverCancel_idle tag g (withPort s p) cursor]
        rfl
      | some c =>
        rw [cmdDiscoverCancel_sweeping tag g (withPort s p) c cursor]
        rfl

end Sys2Proof.Discovery
end

section
/-! PROOF. Attention and ALERT_N: what a raise does to its owner, when ALERT_N is low, and how ATTENTION_SUMMARY,
ATTENTION_READ and ATTENTION_ACK answer. -/

namespace Sys2Proof.AttentionAndAlert

open Sys2Proof Sys2Proof.Machine Sys2Proof.Safety Sys2Proof.RoutedTransactions Sys2Proof.DownstreamSegments

/-! ### A raise (R162) -/

theorem raised_flags_getLsbD (o : Owner) (b k : Nat) (inSet : b < 16) :
    (raised o b).flags.getLsbD k = (o.flags.getLsbD k || decide (k = b)) := by
  rw [← FramePool.raise_eq_raised]
  by_cases isSet : o.flags.getLsbD b = true
  · by_cases here : k = b <;> simp [Owner.raise, isSet, here]
  · have mark : (1#16 <<< b).getLsbD k = decide (k = b) := by
      rw [← BitVec.twoPow_eq, BitVec.getLsbD_twoPow]
      simp [inSet, eq_comm]
    rw [Owner.raise, if_neg isSet, BitVec.getLsbD_or, mark]

theorem raised_stamp (o : Owner) (b : Nat) :
    (raised o b).stamp = if o.flags.getLsbD b then o.stamp else o.stamp + 1 := by
  by_cases isSet : o.flags.getLsbD b = true <;> simp [raised, isSet]

/-- Settles O29: each raise replaces one owner by `raised` of it, which sets one bit and moves the stamp. -/
theorem raiseSetsFlagAndStamp : Obligations.RaiseSetsFlagAndStamp := by
  refine fun s i g fs fg fd => ⟨?_, ?_, ?_, fun o b inSet => ⟨?_, fun k other => ?_, raised_stamp o b⟩⟩
  · rw [State.raiseSlot, FramePool.raise_eq_raised]
  · rw [State.raiseSeg, FramePool.raise_eq_raised]
  · rw [State.raiseDevice, FramePool.raise_eq_raised, State.setDeviceOwner]
  · simp [raised_flags_getLsbD o b b inSet]
  · simp [raised_flags_getLsbD o b k inSet, other]

/-! ### ALERT_N (R168, R169, R196) -/

theorem flag_below_count {flags : BitVec 16} {count b : Nat} (inRange : flags >>> count = 0)
    (isSet : flags.getLsbD b = true) : b < count := by
  refine Nat.lt_of_not_le fun above => ?_
  have clear := congrArg (fun v : BitVec 16 => v.getLsbD (b - count)) inRange
  have back : count + (b - count) = b := by omega
  simp [back, isSet] at clear

/-- A flag set holds an unmasked flag when some flag of its kind is set and its mask position is clear (R196). -/
theorem unmasked_iff (mask : BitVec 32) (base count : Nat) (flags : BitVec 16) (inRange : flags >>> count = 0) :
    unmasked mask base flags = true ↔
      ∃ b, b < count ∧ flags.getLsbD b = true ∧ mask.getLsbD (base + b) = false := by
  have bit (b : Nat) : (flags &&& ~~~((mask >>> base).setWidth 16)).getLsbD b =
      (flags.getLsbD b && !mask.getLsbD (base + b)) := by
    by_cases inSet : b < 16
    · simp [inSet]
    · simp [BitVec.getLsbD_of_ge flags b (by omega)]
  constructor
  · intro some_unmasked
    refine Classical.byContradiction fun none_unmasked => ?_
    refine (bne_iff_ne.mp some_unmasked) (BitVec.eq_of_getLsbD_eq fun b _ => ?_)
    rw [bit]
    by_cases isSet : flags.getLsbD b = true
    · have hidden : mask.getLsbD (base + b) ≠ false := fun shown =>
        none_unmasked ⟨b, flag_below_count inRange isSet, isSet, shown⟩
      simp [hidden]
    · simp [isSet]
  · rintro ⟨b, -, isSet, shown⟩
    refine bne_iff_ne.mpr fun zero => ?_
    have clear := bit b
    simp [zero, isSet, shown] at clear

theorem anyUnmasked_iff (s : State) (mask : BitVec 32) :
    s.att.anyUnmasked mask = true ↔ unmasked mask 0 s.att.device.flags = true
      ∨ (∃ i, unmasked mask 4 (s.slotOwner i).flags = true)
      ∨ (∃ g, unmasked mask 19 (s.segOwner g).flags = true) := by
  have slots : s.att.slots.toList.any (fun o => unmasked mask 4 o.flags) = true ↔
      ∃ i, unmasked mask 4 (s.slotOwner i).flags = true := by
    simp only [List.any_eq_true, Vector.mem_toList_iff, Vector.mem_iff_getElem]
    constructor
    · rintro ⟨_, ⟨n, inTable, rfl⟩, shown⟩
      exact ⟨⟨n, inTable⟩, shown⟩
    · rintro ⟨i, shown⟩
      exact ⟨_, ⟨i.val, i.isLt, rfl⟩, shown⟩
  have segs : (∃ g, unmasked mask 19 (s.segOwner g).flags = true) ↔
      unmasked mask 19 s.att.segs.a.flags = true ∨ unmasked mask 19 s.att.segs.b.flags = true
        ∨ unmasked mask 19 s.att.segs.c.flags = true ∨ unmasked mask 19 s.att.segs.d.flags = true := by
    constructor
    · rintro ⟨g, shown⟩
      cases g
      case a => exact .inl shown
      case b => exact .inr (.inl shown)
      case c => exact .inr (.inr (.inl shown))
      case d => exact .inr (.inr (.inr shown))
    · rintro (shown | shown | shown | shown)
      · exact ⟨.a, shown⟩
      · exact ⟨.b, shown⟩
      · exact ⟨.c, shown⟩
      · exact ⟨.d, shown⟩
  rw [segs, ← slots]
  simp only [Attention.anyUnmasked, Bool.or_eq_true, or_assoc]

/-- Settles O30: the level is the search over the owners, and each owner's test is the one of its set flags. -/
theorem alertLowIffUnmaskedFlag : Obligations.AlertLowIffUnmaskedFlag := by
  rintro s ⟨device, slots, segs⟩
  have slotKinds (i : SlotId) := unmasked_iff s.config.mask 4 _ _ (slots i)
  have segKinds (g : Seg) := unmasked_iff s.config.mask 19 _ _ (segs g)
  rw [State.alertDrivenLow, Bool.and_eq_true, Bool.not_eq_true', anyUnmasked_iff,
    unmasked_iff _ 0 _ _ device]
  simp only [slotKinds, segKinds, Nat.zero_add, deviceFlagCount, slotFlagCount, segFlagCount]

/-! ### Flag sets and owners as bytes (R192, R195, R199) -/

theorem twoBytes_eq (w : BitVec 16) : twoBytes w = [BitVec.ofNat 8 (w.toNat / 256), BitVec.ofNat 8 w.toNat] := by
  have high : w.extractLsb' 8 8 = BitVec.ofNat 8 (w.toNat / 256) := by
    apply BitVec.eq_of_toNat_eq
    simp [Nat.shiftRight_eq_div_pow]
  have low : w.extractLsb' 0 8 = BitVec.ofNat 8 w.toNat := by
    apply BitVec.eq_of_toNat_eq
    simp
  rw [twoBytes, high, low]

theorem ushiftRight_eq_zero_iff_toNat_lt {w : Nat} (x : BitVec w) (n : Nat) : x >>> n = 0 ↔ x.toNat < 2 ^ n := by
  rw [← BitVec.toNat_inj, BitVec.toNat_ushiftRight, Nat.shiftRight_eq_div_pow]
  simp

/-- An owner is read back from its kind and number. -/
theorem ownerOfBytes_bytes {kind number : Byte} (r : OwnerRef) (bytes : r.bytes = [kind, number]) :
    ownerOfBytes kind number = some r := by
  cases r with
  | device =>
    cases bytes
    rfl
  | slot i =>
    cases bytes
    exact congrArg (Option.map OwnerRef.slot) (slotOfByte_slot i)
  | seg g =>
    cases bytes
    exact congrArg (Option.map OwnerRef.seg) (segOfByte_seg g)

/-- The owner kinds and numbers that R199 refuses. -/
theorem ownerOfBytes_refused (kind number : Byte)
    (refused : 2 < kind.toNat ∨ (kind = 0 ∧ number ≠ 0) ∨ (kind = 1 ∧ 63 < number.toNat)
      ∨ (kind = 2 ∧ 3 < number.toNat)) : ownerOfBytes kind number = none := by
  rcases refused with big | ⟨rfl, other⟩ | ⟨rfl, big⟩ | ⟨rfl, big⟩
  · have notDevice : kind ≠ 0 := by rintro rfl; simp at big
    have notSlot : kind ≠ 1 := by rintro rfl; simp at big
    have notSeg : kind ≠ 2 := by rintro rfl; simp at big
    simp only [ownerOfBytes, notDevice, notSlot, notSeg, if_false]
  · rw [ownerOfBytes, if_pos rfl, if_neg other]
  · simp [ownerOfBytes, slotOfByte_big number big]
  · simp [ownerOfBytes, segOfByte_big number big]

theorem setByte_lt_16 : ∀ a b c d : Bool, setByte [a, b, c, d] < 16 := by
  decide

theorem segmentSet_getLsbD (s : State) (g : Seg) :
    s.segmentSet.getLsbD (segByte g).toNat = decide ((s.segOwner g).flags ≠ 0) := by
  rw [State.segmentSet, setByte_getLsbD _ _ (by cases g <;> decide)]
  cases g <;> simp [segByte, bne, Bool.beq_eq_decide_eq]

/-! ### ATTENTION_SUMMARY (R165) -/

theorem slotSet_getLsbD (s : State) (i : SlotId) :
    ((packSet 8 (s.att.slots.toList.map fun o => o.flags != 0))[i.val / 8]?.getD 0).getLsbD (7 - i.val % 8) =
      decide ((s.slotOwner i).flags ≠ 0) := by
  rw [packSet_getLsbD 8 _ i.val (by simp) i.isLt]
  simp [State.slotOwner, Vector.get, bne, Bool.beq_eq_decide_eq]

theorem exec_attentionSummary (tag : Byte) (check : Option Byte) (s : State) (takes : Takes s 0x40 tag check []) :
    exec (.attentionSummary tag check) s = .next (answered s .ok tag
      (twoBytes s.att.device.flags ++ [s.att.device.stamp]
        ++ packSet 8 (s.att.slots.toList.map fun o => o.flags != 0) ++ [s.segmentSet, boolByte s.alertDrivenLow])) :=
  congrArg Host.Outcome.next (managementWrite_takes s 0x40 tag check [] _ (by decide) (by simp) takes)

/-! ### What an owner holds does not depend on the upstream port -/

theorem owner_withPort (s : State) (p : Port) (r : OwnerRef) : (withPort s p).owner r = s.owner r := by
  cases r <;> rfl

theorem setOwner_withPort (s : State) (p : Port) (r : OwnerRef) (o : Owner) :
    (withPort s p).setOwner r o = withPort (s.setOwner r o) p := by
  cases r <;> rfl

theorem unroutedBytes_withPort (s : State) (p : Port) (r : OwnerRef) :
    (withPort s p).unroutedBytes r = s.unroutedBytes r := by
  cases r <;> rfl

/-! ### ATTENTION_READ (R166) -/

theorem exec_attentionRead (tag : Byte) (check : Option Byte) (kind number : Byte) (s : State)
    (takes : Takes s 0x41 tag check [kind, number]) : ∃ p, exec (.attentionRead tag check kind number) s =
      .next (cmdAttentionRead tag kind number (withPort s p)).toIdle :=
  ⟨_, congrArg Host.Outcome.next (managementWrite_takes s 0x41 tag check [kind, number] _ (by decide) (by simp) takes)⟩

theorem exec_attentionRead_refused {tag : Byte} {check : Option Byte} {kind number : Byte} {s : State}
    (takes : Takes s 0x41 tag check [kind, number]) (noOwner : ownerOfBytes kind number = none) :
    exec (.attentionRead tag check kind number) s = .next (answered s .badArgument tag [0x14]) := by
  obtain ⟨p, runs⟩ := exec_attentionRead tag check kind number s takes
  rw [runs, cmdAttentionRead, noOwner]
  exact congrArg Host.Outcome.next (badArgument_toIdle s p tag .owner)

theorem exec_attentionRead_owner {tag : Byte} {check : Option Byte} {kind number : Byte} {s : State}
    (takes : Takes s 0x41 tag check [kind, number]) (r : OwnerRef) (bytes : r.bytes = [kind, number]) :
    exec (.attentionRead tag check kind number) s = .next (answered s .ok tag
      ([kind, number] ++ twoBytes (s.owner r).flags ++ [(s.owner r).stamp] ++ s.unroutedBytes r)) := by
  obtain ⟨p, runs⟩ := exec_attentionRead tag check kind number s takes
  rw [runs, cmdAttentionRead, ownerOfBytes_bytes r bytes]
  simp only [owner_withPort, unroutedBytes_withPort, bytes]
  exact congrArg Host.Outcome.next (respond_toIdle s p _ _ _)

theorem unroutedBytes_seg (s : State) (g : Seg) :
    s.unroutedBytes (.seg g) = [match s.att.unrouted.get g with
      | none => 0xFF
      | some a => BitVec.ofNat 8 a.toNat] := by
  cases unrouted : s.att.unrouted.get g with
  | none => simp only [State.unroutedBytes, unrouted]
  | some a => simp only [State.unroutedBytes, unrouted, addrByte_eq]

/-- Settles O31: the summary by the members of its sets, the read by the owner that its two bytes name. -/
theorem attentionSummaryAndReadAnswer : Obligations.AttentionSummaryAndReadAnswer := by
  refine ⟨fun tag check s takes => ?_, fun tag check kind number s takes => ?_⟩
  · refine ⟨_, s.segmentSet, packSet_length 8 _, ?_, slotSet_getLsbD s, segmentSet_getLsbD s, setByte_lt_16 _ _ _ _⟩
    rw [exec_attentionSummary tag check s takes, twoBytes_eq]
    rfl
  · have reads := exec_attentionRead_owner takes
    simp only [twoBytes_eq] at reads
    refine ⟨fun refused => exec_attentionRead_refused takes (ownerOfBytes_refused kind number refused),
      ?_, fun i => ?_, fun g => ?_⟩
    · rintro rfl rfl
      exact reads .device rfl
    · rintro rfl rfl
      exact reads (.slot i) rfl
    · rintro rfl rfl
      have answer := reads (.seg g) rfl
      rw [unroutedBytes_seg] at answer
      exact answer

/-! ### ATTENTION_ACK (R167) -/

theorem exec_attentionAck (tag : Byte) (check : Option Byte) (kind number stamp high low : Byte) (s : State)
    (takes : Takes s 0x42 tag check [kind, number, stamp, high, low]) :
    ∃ p, exec (.attentionAck tag check kind number stamp high low) s =
      .next (cmdAttentionAck tag kind number stamp high low (withPort s p)).toIdle :=
  ⟨_, congrArg Host.Outcome.next
    (managementWrite_takes s 0x42 tag check [kind, number, stamp, high, low] _ (by decide) (by simp) takes)⟩

theorem exec_attentionAck_refused {tag : Byte} {check : Option Byte} {kind number stamp high low : Byte} {s : State}
    (takes : Takes s 0x42 tag check [kind, number, stamp, high, low]) (noOwner : ownerOfBytes kind number = none) :
    exec (.attentionAck tag check kind number stamp high low) s = .next (answered s .badArgument tag [0x14]) := by
  obtain ⟨p, runs⟩ := exec_attentionAck tag check kind number stamp high low s takes
  rw [runs, cmdAttentionAck, noOwner]
  exact congrArg Host.Outcome.next (badArgument_toIdle s p tag .owner)

/-- The answer of an owner that exists: FLAGS is checked against its kinds, then the stamp (R167). -/
theorem exec_attentionAck_owner {tag : Byte} {check : Option Byte} {kind number stamp high low : Byte} {s : State}
    (takes : Takes s 0x42 tag check [kind, number, stamp, high, low]) (r : OwnerRef)
    (bytes : r.bytes = [kind, number]) :
    exec (.attentionAck tag check kind number stamp high low) s = .next
      (if 2 ^ r.flagCount ≤ (high ++ low : BitVec 16).toNat then answered s .badArgument tag [0x15]
      else if stamp = (s.owner r).stamp then
        answered (s.setOwner r ((s.owner r).acknowledge (high ++ low))) .ok tag
          ([kind, number] ++ [(s.owner r).stamp] ++ twoBytes ((s.owner r).acknowledge (high ++ low)).flags)
      else answered s .stale tag ([kind, number] ++ [(s.owner r).stamp] ++ twoBytes (s.owner r).flags)) := by
  obtain ⟨p, runs⟩ := exec_attentionAck tag check kind number stamp high low s takes
  rw [runs, cmdAttentionAck, ownerOfBytes_bytes r bytes]
  simp only [owner_withPort, setOwner_withPort, bytes, ne_eq, ushiftRight_eq_zero_iff_toNat_lt, Nat.not_lt,
    apply_ite State.toIdle]
  rfl

/-- Settles O32: the three owner kinds are one answer of the owner named, by FLAGS and by the stamp. -/
theorem attentionAckClearsNamedFlags : Obligations.AttentionAckClearsNamedFlags := by
  intro tag check kind number stamp high low s takes named bytes cleared answer acknowledges
  have acks := exec_attentionAck_owner takes
  simp only [twoBytes_eq] at acks
  have owner (r : OwnerRef) (isOwner : r.bytes = [kind, number]) :
      acknowledges (s.owner r) r.flagCount (s.setOwner r (cleared (s.owner r))) := by
    have acked := acks r isOwner
    refine ⟨fun big => ?_, fun small same => ?_, fun small other => ?_⟩
    · rwa [if_pos big] at acked
    · rwa [if_neg (Nat.not_le.mpr small), if_pos same] at acked
    · rwa [if_neg (Nat.not_le.mpr small), if_neg other] at acked
  refine ⟨fun refused => exec_attentionAck_refused takes (ownerOfBytes_refused kind number refused),
    ?_, fun i => ?_, fun g => ?_⟩
  · rintro rfl rfl
    exact owner .device rfl
  · rintro rfl rfl
    exact owner (.slot i) rfl
  · rintro rfl rfl
    exact owner (.seg g) rfl

end Sys2Proof.AttentionAndAlert
end

section
/-! PROOF. The management protocol: how DEVICE_IDENT and DEVICE_CONFIG_READ answer, and how DEVICE_CONFIG_WRITE checks
its fields and replaces them together. -/

namespace Sys2Proof.ManagementProtocol

open Sys2Proof Sys2Proof.Machine Sys2Proof.Safety Sys2Proof.RoutedTransactions Sys2Proof.DownstreamSegments

/-! ### The attention mask as bytes (R192) -/

theorem extractLsb'_byte {w : Nat} (v : BitVec w) (k : Nat) : v.extractLsb' k 8 = BitVec.ofNat 8 (v.toNat / 2 ^ k) := by
  apply BitVec.eq_of_toNat_eq
  rw [BitVec.extractLsb'_toNat, BitVec.toNat_ofNat, Nat.shiftRight_eq_div_pow]

theorem maskBytes_eq (m : BitVec 32) :
    maskBytes m = [BitVec.ofNat 8 (m.toNat / 0x1000000), BitVec.ofNat 8 (m.toNat / 0x10000),
      BitVec.ofNat 8 (m.toNat / 0x100), BitVec.ofNat 8 m.toNat] := by
  simp only [maskBytes, extractLsb'_byte, Nat.reducePow, Nat.div_one]

theorem maskBytes_append (m3 m2 m1 m0 : Byte) : maskBytes (m3 ++ m2 ++ m1 ++ m0) = [m3, m2, m1, m0] := by
  have first : (m3 ++ m2 ++ m1 ++ m0 : BitVec 32).extractLsb' 24 8 = m3 := by
    rw [BitVec.extractLsb'_append_eq_of_le (by decide), BitVec.extractLsb'_append_eq_of_le (by decide),
      BitVec.extractLsb'_append_eq_of_le (by decide), BitVec.extractLsb'_eq_self]
  have second : (m3 ++ m2 ++ m1 ++ m0 : BitVec 32).extractLsb' 16 8 = m2 := by
    rw [BitVec.extractLsb'_append_eq_of_le (by decide), BitVec.extractLsb'_append_eq_of_le (by decide),
      BitVec.extractLsb'_append_eq_of_add_le (by decide), BitVec.extractLsb'_eq_self]
  have third : (m3 ++ m2 ++ m1 ++ m0 : BitVec 32).extractLsb' 8 8 = m1 := by
    rw [BitVec.extractLsb'_append_eq_of_le (by decide),
      BitVec.extractLsb'_append_eq_of_add_le (by decide), BitVec.extractLsb'_eq_self]
  have last : (m3 ++ m2 ++ m1 ++ m0 : BitVec 32).extractLsb' 0 8 = m0 := by
    rw [BitVec.extractLsb'_append_eq_of_add_le (by decide), BitVec.extractLsb'_eq_self]
  simp only [maskBytes, first, second, third, last]

/-! ### The device configuration (R183 to R185) -/

theorem config_encode_eq (c : DeviceConfig) :
    c.encode = [BitVec.ofNat 8 c.hold, BitVec.ofNat 8 c.idle, if c.checkRequired then 1 else 0,
      BitVec.ofNat 8 (c.mask.toNat / 0x1000000), BitVec.ofNat 8 (c.mask.toNat / 0x10000),
      BitVec.ofNat 8 (c.mask.toNat / 0x100), BitVec.ofNat 8 c.mask.toNat] := by
  rw [DeviceConfig.encode, maskBytes_eq]
  rfl

/-- The configuration that seven argument bytes spell. -/
def configOfBytes (hold idle required m3 m2 m1 m0 : Byte) : DeviceConfig :=
  { hold := hold.toNat, idle := idle.toNat, checkRequired := required = 1, mask := m3 ++ m2 ++ m1 ++ m0 }

theorem boolByte_decide_one (b : Byte) (isFlag : b.toNat ≤ 1) : boolByte (decide (b = 1)) = b := by
  by_cases one : b = 1
  · simp [boolByte, one]
  · have zero : b = 0 := by bv_omega
    simp [boolByte, zero]

/-- A configuration taken from its bytes is sent back as these bytes: of a flag byte, 00h and 01h alone are. -/
theorem encode_configOfBytes (hold idle required m3 m2 m1 m0 : Byte) (isFlag : required.toNat ≤ 1) :
    (configOfBytes hold idle required m3 m2 m1 m0).encode = [hold, idle, required, m3, m2, m1, m0] := by
  simp only [DeviceConfig.encode, configOfBytes, byteOf, BitVec.ofNat_toNat, BitVec.setWidth_eq,
    boolByte_decide_one required isFlag, maskBytes_append, List.cons_append, List.nil_append]

/-- The four bits above the 28 mask positions are clear when the top mask byte is at most 0Fh (R185, R196). -/
theorem topNibble_ne_zero_iff (b : Byte) : b.extractLsb' 4 4 ≠ 0 ↔ 0x0F < b.toNat := by
  have bound : b.toNat < 256 := b.isLt
  rw [ne_eq, ← BitVec.toNat_inj, BitVec.extractLsb'_toNat, Nat.shiftRight_eq_div_pow]
  simp only [Nat.reducePow, BitVec.ofNat_eq_ofNat, BitVec.toNat_ofNat, Nat.zero_mod]
  omega

theorem parseDeviceConfig_eq (hold idle required m3 m2 m1 m0 : Byte) :
    parseDeviceConfig hold idle required m3 m2 m1 m0 =
      if hold = 0 ∨ 50 < hold.toNat then .error .holdLimit
      else if idle = 0 then .error .idleLimit
      else if 1 < required.toNat then .error .checkRequired
      else if 0x0F < m3.toNat then .error .mask
      else .ok (configOfBytes hold idle required m3 m2 m1 m0) := by
  simp only [parseDeviceConfig, BitVec.lt_def, topNibble_ne_zero_iff]
  rfl

/-! ### The three commands on a frame that the part takes -/

theorem exec_deviceIdent (tag : Byte) (check : Option Byte) (s : State) (takes : Takes s 0x01 tag check []) :
    exec (.deviceIdent tag check) s =
      .next (answered s .ok tag (Config.partCode ++ [Config.revision, s.mgmtAddr.setWidth 8])) :=
  congrArg Host.Outcome.next (managementWrite_takes s 0x01 tag check [] _ (by decide) (by simp) takes)

theorem exec_deviceConfigRead (tag : Byte) (check : Option Byte) (s : State) (takes : Takes s 0x02 tag check []) :
    exec (.deviceConfigRead tag check) s = .next (answered s .ok tag s.config.encode) :=
  congrArg Host.Outcome.next (managementWrite_takes s 0x02 tag check [] _ (by decide) (by simp) takes)

/-- The answer to a device configuration, or to the first field that fails (R178, R185). -/
def deviceConfigAnswer (s : State) (tag : Byte) : Except Field DeviceConfig → State
  | .error f => answered s .badArgument tag [f.code]
  | .ok c => answered { s with config := c } .ok tag c.encode

theorem cmdDeviceConfigWrite_toIdle (tag hold idle required m3 m2 m1 m0 : Byte) (s : State) (p : Port) :
    (cmdDeviceConfigWrite tag hold idle required m3 m2 m1 m0 (withPort s p)).toIdle =
      deviceConfigAnswer s tag (parseDeviceConfig hold idle required m3 m2 m1 m0) := by
  unfold cmdDeviceConfigWrite
  cases parseDeviceConfig hold idle required m3 m2 m1 m0 with
  | error f => exact badArgument_toIdle s p tag f
  | ok c => exact respond_toIdle { s with config := c } p .ok tag c.encode

theorem exec_deviceConfigWrite (tag : Byte) (check : Option Byte) (hold idle required m3 m2 m1 m0 : Byte) (s : State)
    (takes : Takes s 0x03 tag check [hold, idle, required, m3, m2, m1, m0]) :
    exec (.deviceConfigWrite tag check hold idle required m3 m2 m1 m0) s =
      .next (deviceConfigAnswer s tag (parseDeviceConfig hold idle required m3 m2 m1 m0)) :=
  congrArg Host.Outcome.next
    ((managementWrite_takes s 0x03 tag check [hold, idle, required, m3, m2, m1, m0] _ (by decide) (by simp) takes).trans
      (cmdDeviceConfigWrite_toIdle tag hold idle required m3 m2 m1 m0 s _))

/-- Settles O10: the parser by its fields in order, and the bytes of a configuration that passes sent back. -/
theorem deviceConfigWriteChecksThenReplaces : Obligations.DeviceConfigWriteChecksThenReplaces := by
  intro tag check h i r m3 m2 m1 m0 s takes
  rw [exec_deviceConfigWrite tag check h i r m3 m2 m1 m0 s takes, parseDeviceConfig_eq]
  refine congrArg Host.Outcome.next ?_
  by_cases hold : h = 0 ∨ 50 < h.toNat
  · rw [if_pos hold, if_pos hold]
    rfl
  rw [if_neg hold, if_neg hold]
  by_cases idle : i = 0
  · rw [if_pos idle, if_pos idle]
    rfl
  rw [if_neg idle, if_neg idle]
  by_cases required : 1 < r.toNat
  · rw [if_pos required, if_pos required]
    rfl
  rw [if_neg required, if_neg required]
  by_cases mask : 0x0F < m3.toNat
  · rw [if_pos mask, if_pos mask]
    rfl
  rw [if_neg mask, if_neg mask, deviceConfigAnswer,
    encode_configOfBytes h i r m3 m2 m1 m0 (Nat.not_lt.mp required)]
  rfl

/-- Settles O9: what each command answers, with the address and the configuration byte by byte. -/
theorem deviceIdentAndConfigReadAnswer : Obligations.DeviceIdentAndConfigReadAnswer := by
  refine ⟨fun tag check s takes => ?_, fun tag check s takes => ?_⟩
  · rw [exec_deviceIdent tag check s takes, addrByte_eq]
    rfl
  · rw [exec_deviceConfigRead tag check s takes, config_encode_eq]

end Sys2Proof.ManagementProtocol
end

section
/-! PROOF. The commands that wait: every row answers a next state, and leaves the queue as it is. What routed traffic,
deliveries, segments and alerts do is said by Laws/Rest; here stand the shared frames of the commands, the management
commands, the resets and the conditions of the upstream bus, then every row of the table. -/

namespace Sys2Proof.WaitingCommands

open Sys2Proof Sys2Proof.Machine

/-- The waiting commands are one of the parts that routed traffic, deliveries, segments and alerts never touch. -/
theorem pending_of_rest {s t : State} (same : t.rest = s.rest) : t.pending = s.pending := by
  simp only [State.rest, Prod.mk.injEq] at same
  obtain ⟨-, -, -, -, -, -, -, queue⟩ := same
  exact queue

/-- An answer after such an operation. -/
theorem pending_respond_of_rest {s t : State} {st : Status} {tag : Byte} {data : List Byte} (same : t.rest = s.rest) :
    (t.respond st tag data).pending = s.pending :=
  (respond_pending t st tag data).trans (pending_of_rest same)

theorem pending_ite {s t u : State} (c : Prop) [Decidable c] (taken : t.pending = s.pending)
    (other : u.pending = s.pending) : (if c then t else u).pending = s.pending := by
  split
  · exact taken
  · exact other

/-! ### The shared frames of the commands

Laws/Keeps carries a property of the state through each frame; here it is the property of having a given queue. -/

/-- The commands that wait are these. -/
def HasQueue (queue : List Instr) (s : State) : Prop := s.pending = queue

theorem hasQueue_answers (queue : List Instr) : AnswersKeep (HasQueue queue) := fun _ _ _ _ same => same

theorem hasQueue_portFree (queue : List Instr) : PortFree (HasQueue queue) := fun _ _ same => same

theorem hasQueue_timerFree (queue : List Instr) : TimerFree (HasQueue queue) := fun _ _ _ same => same

section Frames

variable {s : State}

theorem pending_running {event : State → State} (keeps : ∀ u, (event u).pending = u.pending) :
    (s.running event).pending = s.pending :=
  running_keeps (P := HasQueue s.pending) event (fun u same => (keeps u).trans same) s rfl

theorem pending_withSlot {tag slot : Byte} {command : SlotId → State} (keeps : ∀ i, (command i).pending = s.pending) :
    (s.withSlot tag slot command).pending = s.pending :=
  withSlot_keeps (hasQueue_answers s.pending) tag slot command s keeps rfl

theorem pending_withSeg {tag seg : Byte} {command : Seg → State} (keeps : ∀ g, (command g).pending = s.pending) :
    (s.withSeg tag seg command).pending = s.pending :=
  withSeg_keeps (hasQueue_answers s.pending) tag seg command s keeps rfl

theorem pending_withToken {tag token : Byte} {command : State → State}
    (keeps : ∀ u, (command u).pending = u.pending) : (s.withToken tag token command).pending = s.pending :=
  withToken_keeps (hasQueue_answers s.pending) (hasQueue_timerFree s.pending) tag token command s
    (fun u same => (keeps u).trans same) rfl

theorem pending_take0 {tag : Byte} {args : List Byte} {command : State → State}
    (keeps : (command s).pending = s.pending) : (s.take0 tag args command).pending = s.pending :=
  take0_keeps (hasQueue_answers s.pending) tag args command s keeps rfl

theorem pending_take1 {tag : Byte} {args : List Byte} {command : Byte → State → State}
    (keeps : ∀ a, (command a s).pending = s.pending) : (s.take1 tag args command).pending = s.pending :=
  take1_keeps (hasQueue_answers s.pending) tag args command s keeps rfl

theorem pending_take2 {tag : Byte} {args : List Byte} {command : Byte → Byte → State → State}
    (keeps : ∀ a b, (command a b s).pending = s.pending) : (s.take2 tag args command).pending = s.pending :=
  take2_keeps (hasQueue_answers s.pending) tag args command s keeps rfl

theorem pending_managementWrite {frame : List Byte} {command : State → State}
    (keeps : ∀ u, (command u).pending = u.pending) : (s.managementWrite frame command).pending = s.pending :=
  managementWrite_keeps (hasQueue_answers s.pending) (hasQueue_portFree s.pending) frame command s
    (fun u same => (keeps u).trans same) rfl

end Frames

/-! ### The commands of the device and the resets (R184 to R189, R204, R205) -/

theorem pending_deviceConfigWrite (tag h i r m3 m2 m1 m0 : Byte) (s : State) :
    (cmdDeviceConfigWrite tag h i r m3 m2 m1 m0 s).pending = s.pending := by
  unfold cmdDeviceConfigWrite
  split <;> rfl

theorem pending_softReset (tag scope : Byte) (s : State) : (cmdSoftReset tag scope s).pending = s.pending :=
  pending_ite _ rfl (pending_ite _ rfl rfl)

/-! ### The commands of the edit session (R32 to R47) -/

theorem pending_editOpen (tag : Byte) (s : State) : (cmdEditOpen tag s).pending = s.pending := by
  unfold cmdEditOpen
  split <;> rfl

theorem pending_placeEntry (tag : Byte) (e : Entry) (s : State) : (s.placeEntry tag e).pending = s.pending := by
  unfold State.placeEntry
  split
  · rfl
  · exact pending_ite _ rfl rfl

theorem pending_editStage (tag token slot action : Byte) (entry : List Byte) (s : State) :
    (cmdEditStage tag token slot action entry s).pending = s.pending := by
  refine pending_withToken fun u => pending_withSlot fun i => ?_
  split
  · rfl
  · exact pending_placeEntry tag _ u

/-- EDIT_STAGE where its length may still be refused, as its row has it (R37, R176). -/
theorem pending_editStageOfLength (tag token slot action : Byte) (entry : List Byte) (s : State) :
    (if stageEntryLength action entry.length then cmdEditStage tag token slot action entry s
      else s.respond .badLength tag []).pending = s.pending :=
  pending_ite _ (pending_editStage tag token slot action entry s) rfl

theorem pending_editUnstage (tag token slot : Byte) (s : State) :
    (cmdEditUnstage tag token slot s).pending = s.pending :=
  pending_withToken fun _ => pending_withSlot fun _ => pending_ite _ rfl rfl

theorem pending_editList (tag token : Byte) (s : State) : (cmdEditList tag token s).pending = s.pending :=
  pending_withToken fun _ => rfl

theorem pending_editAbandon (tag token : Byte) (s : State) : (cmdEditAbandon tag token s).pending = s.pending :=
  pending_withToken fun _ => rfl

theorem pending_applyEntries (entries : List Entry) (s : State) : (s.applyEntries entries).1.pending = s.pending := by
  induction entries generalizing s with
  | nil => rfl
  | cons e rest ih => exact (ih (s.applyEntry e)).trans (pending_of_rest (rest_applyEntry s e))

theorem pending_editCommit (tag token : Byte) (s : State) : (cmdEditCommit tag token s).pending = s.pending := by
  refine pending_withToken fun u => ?_
  split
  · rfl
  · exact pending_applyEntries u.staging u

/-! ### The commands of the routes (R27 to R29, R49 to R51) -/

theorem pending_moveSlot (tag : Byte) (i : SlotId) (old new : SlotState) (faults : Nat) (s : State) :
    (s.moveSlot tag i old new faults).pending = s.pending := pending_ite _ rfl rfl

theorem pending_routeHold (tag slot : Byte) (s : State) : (cmdRouteHold tag slot s).pending = s.pending :=
  pending_withSlot fun i => pending_moveSlot tag i _ _ _ s

theorem pending_routeResume (tag slot : Byte) (s : State) : (cmdRouteResume tag slot s).pending = s.pending :=
  pending_withSlot fun i => pending_moveSlot tag i _ _ _ s

theorem pending_routeRelease (tag slot : Byte) (s : State) : (cmdRouteRelease tag slot s).pending = s.pending :=
  pending_withSlot fun i => pending_moveSlot tag i _ _ _ s

theorem pending_routeRead (tag slot : Byte) (s : State) : (cmdRouteRead tag slot s).pending = s.pending :=
  pending_withSlot fun _ => rfl

theorem pending_respondFound (tag : Byte) (found : Option SlotId) (s : State) :
    (s.respondFound tag found).pending = s.pending := by
  cases found <;> rfl

theorem pending_routeFindVirtual (tag formAndUpper lower : Byte) (s : State) :
    (cmdRouteFindVirtual tag formAndUpper lower s).pending = s.pending := by
  unfold cmdRouteFindVirtual
  split
  · rfl
  · exact pending_respondFound tag _ s

theorem pending_routeFindTarget (tag segment target : Byte) (s : State) :
    (cmdRouteFindTarget tag segment target s).pending = s.pending :=
  pending_withSeg fun _ => pending_ite _ rfl (pending_respondFound tag _ s)

/-! ### The commands of the segments and of attention (R123, R141, R142, R148 to R153, R165 to R167) -/

theorem pending_arbitrate (s : State) (g : Seg) : (s.arbitrate g).pending = s.pending :=
  pending_of_rest (rest_arbitrate s g)

theorem pending_segmentConfig (tag segment enable speed lowLimit retry alert : Byte) (s : State) :
    (cmdSegmentConfig tag segment enable speed lowLimit retry alert s).pending = s.pending := by
  refine pending_withSeg fun g => ?_
  split
  · rfl
  · exact pending_ite _ ((pending_arbitrate _ g).trans (pending_of_rest (rest_install s g _))) rfl

theorem pending_segmentClear (tag segment : Byte) (s : State) :
    (cmdSegmentClear tag segment s).pending = s.pending := by
  have withdrawn (g : Seg) : ((s.beginRecovery g).withdrawAt g).pending = s.pending :=
    pending_of_rest (by rw [rest_withdrawAt, rest_beginRecovery])
  refine pending_withSeg fun g => ?_
  split
  · exact withdrawn g
  · exact withdrawn g
  · exact pending_respond_of_rest (rest_beginRecovery _ g)
  · exact pending_respond_of_rest (rest_clearTail _ g)
  · rfl
  · rfl

theorem pending_segmentStatus (tag segment : Byte) (s : State) :
    (cmdSegmentStatus tag segment s).pending = s.pending :=
  pending_withSeg fun _ => rfl

theorem pending_segmentDiscover (tag segment : Byte) (s : State) :
    (cmdSegmentDiscover tag segment s).pending = s.pending := by
  refine pending_withSeg fun g => ?_
  split
  · rfl
  · exact pending_ite _ (pending_arbitrate _ g) rfl

theorem pending_discoverCancel (tag segment : Byte) (s : State) :
    (cmdDiscoverCancel tag segment s).pending = s.pending := by
  refine pending_withSeg fun g => ?_
  split <;> rfl

theorem pending_presenceRead (tag segment : Byte) (s : State) : (cmdPresenceRead tag segment s).pending = s.pending :=
  pending_withSeg fun _ => rfl

theorem pending_attentionRead (tag kind number : Byte) (s : State) :
    (cmdAttentionRead tag kind number s).pending = s.pending := by
  unfold cmdAttentionRead
  split <;> rfl

theorem pending_attentionAck (tag kind number stamp high low : Byte) (s : State) :
    (cmdAttentionAck tag kind number stamp high low s).pending = s.pending := by
  unfold cmdAttentionAck
  split
  · rfl
  · exact pending_ite _ rfl (pending_ite _ (pending_respond_of_rest (rest_setOwner s _ _)) rfl)

/-! ### The assembled management write (R59, R176) -/

theorem pending_runLong (code tag : Byte) (args : List Byte) (s : State) :
    (s.runLong code tag args).pending = s.pending := by
  unfold State.runLong
  split
  · exact pending_ite _ (pending_deviceConfigWrite tag _ _ _ _ _ _ _ s) rfl
  · exact pending_ite _ (pending_segmentConfig tag _ _ _ _ _ _ s) rfl
  · exact pending_ite _ (pending_attentionAck tag _ _ _ _ _ s) rfl
  · rfl

theorem pending_runStage (tag : Byte) (args : List Byte) (s : State) : (s.runStage tag args).pending = s.pending := by
  unfold State.runStage
  split
  · exact pending_editStageOfLength tag _ _ _ _ s
  · rfl

/-- Whatever the code of a frame is, its command leaves the waiting commands: the cases are the codes of the catalogue
in the order of their tests (R193), then the codes outside it. -/
theorem pending_runCode (code tag : Byte) (args : List Byte) (s : State) :
    (s.runCode code tag args).pending = s.pending := by
  unfold State.runCode
  refine pending_ite _ (pending_take0 rfl) ?_
  refine pending_ite _ (pending_take0 rfl) ?_
  refine pending_ite _ (pending_runLong code tag args s) ?_
  refine pending_ite _ (pending_take1 fun scope => pending_softReset tag scope s) ?_
  refine pending_ite _ (pending_take0 (pending_editOpen tag s)) ?_
  refine pending_ite _ (pending_runStage tag args s) ?_
  refine pending_ite _ (pending_take2 fun token slot => pending_editUnstage tag token slot s) ?_
  refine pending_ite _ (pending_take1 fun token => pending_editList tag token s) ?_
  refine pending_ite _ (pending_take1 fun token => pending_editCommit tag token s) ?_
  refine pending_ite _ (pending_take1 fun token => pending_editAbandon tag token s) ?_
  refine pending_ite _ (pending_take1 fun slot => pending_routeHold tag slot s) ?_
  refine pending_ite _ (pending_take1 fun slot => pending_routeResume tag slot s) ?_
  refine pending_ite _ (pending_take1 fun slot => pending_routeRelease tag slot s) ?_
  refine pending_ite _ (pending_take1 fun slot => pending_routeRead tag slot s) ?_
  refine pending_ite _ (pending_take2 fun formAndUpper lower => pending_routeFindVirtual tag formAndUpper lower s) ?_
  refine pending_ite _ (pending_take2 fun segment target => pending_routeFindTarget tag segment target s) ?_
  refine pending_ite _ (pending_take1 fun segment => pending_segmentClear tag segment s) ?_
  refine pending_ite _ (pending_take1 fun segment => pending_segmentStatus tag segment s) ?_
  refine pending_ite _ (pending_take1 fun segment => pending_segmentDiscover tag segment s) ?_
  refine pending_ite _ (pending_take1 fun segment => pending_discoverCancel tag segment s) ?_
  refine pending_ite _ (pending_take1 fun segment => pending_presenceRead tag segment s) ?_
  refine pending_ite _ (pending_take0 rfl) ?_
  refine pending_ite _ (pending_take2 fun kind number => pending_attentionRead tag kind number s) ?_
  rfl

theorem pending_runWrite (s : State) : s.runWrite.pending = s.pending :=
  runWrite_keeps (hasQueue_answers s.pending) s (fun code tag args => pending_runCode code tag args s) rfl

/-! ### The conditions of the upstream bus (R68, R69, R75) -/

theorem pending_takeStart (s : State) : s.takeStart.pending = s.pending := by
  have paused (kind : HeldKind) : (s.pauseTxn.holdPhase kind).pending = s.pending :=
    pending_of_rest (by rw [rest_holdPhase, rest_pauseTxn])
  unfold State.takeStart
  cases s.port.state with
  | idle | address | tenFirst | notAddressed | mgmtRead | postedFill => rfl
  | mgmtWrite => exact pending_ite _ (pending_runWrite s) (pending_runWrite s)
  | routedCt => exact paused .ct
  | routedRead => exact paused .read

theorem pending_takeStop (s : State) : s.takeStop.pending = s.pending := by
  unfold State.takeStop
  cases s.port.state with
  | idle | notAddressed | mgmtRead => rfl
  | address | tenFirst => exact pending_of_rest (rest_endHeld s)
  | mgmtWrite => exact pending_runWrite s
  | routedCt | routedRead => exact pending_of_rest (rest_endUpstream s _)
  | postedFill => exact pending_of_rest (rest_closeFill s)

theorem pending_takeCondition (c : Condition) (s : State) : (s.takeCondition c).pending = s.pending := by
  cases c with
  | start => exact pending_takeStart s
  | stop => exact pending_takeStop s

theorem pending_takeMisplaced (c : Condition) (s : State) : (s.takeMisplaced c).pending = s.pending := by
  have abandoned : (s.abandonPhase.toIdle.takeCondition c).pending = s.pending :=
    (pending_takeCondition c _).trans (pending_of_rest (rest_abandonPhase s))
  exact pending_ite _ (pending_takeCondition c s) (pending_ite _ rfl abandoned)

/-! ### Every row of the table -/

/-- The outcome of a row is a next state, with the waiting commands of the state before. -/
def NextKeepsQueue (s : State) (o : Host.Outcome State Fault Refusal) : Prop :=
  ∃ t, o = .next t ∧ t.pending = s.pending

section Rows

variable {s : State}

theorem nextKeepsQueue_next {t : State} (same : t.pending = s.pending) : NextKeepsQueue s (.next t) := ⟨t, rfl, same⟩

/-- A row that has no effect but where a condition holds (log entry 1). -/
theorem nextKeepsQueue_ite {t u : State} {c : Prop} [Decidable c] (taken : t.pending = s.pending)
    (other : u.pending = s.pending) : NextKeepsQueue s (.next (if c then t else u)) :=
  nextKeepsQueue_next (pending_ite c taken other)

/-- A row that the part takes while it runs (R203, R204). -/
theorem nextKeepsQueue_running {event : State → State} (keeps : ∀ u, (event u).pending = u.pending) :
    NextKeepsQueue s (.next (s.running event)) := nextKeepsQueue_next (pending_running keeps)

/-- The same of an event of routed traffic, deliveries, segments and alerts. -/
theorem nextKeepsQueue_event {event : State → State} (keeps : ∀ u, (event u).rest = u.rest) :
    NextKeepsQueue s (.next (s.running event)) := nextKeepsQueue_running fun u => pending_of_rest (keeps u)

/-- A row that the part takes while it runs, where it stands as the row needs (log entry 1). -/
theorem nextKeepsQueue_guarded {c : State → Prop} [DecidablePred c] {event : State → State}
    (keeps : ∀ u, (event u).pending = u.pending) :
    NextKeepsQueue s (.next (s.running fun u => if c u then event u else u)) :=
  nextKeepsQueue_running fun u => pending_ite _ (keeps u) rfl

theorem nextKeepsQueue_guardedEvent {c : State → Prop} [DecidablePred c] {event : State → State}
    (keeps : ∀ u, (event u).rest = u.rest) :
    NextKeepsQueue s (.next (s.running fun u => if c u then event u else u)) :=
  nextKeepsQueue_guarded fun u => pending_of_rest (keeps u)

/-- A row that is one whole management write (R58, R176). -/
theorem nextKeepsQueue_write {frame : List Byte} {command : State → State}
    (keeps : ∀ u, (command u).pending = u.pending) : NextKeepsQueue s (.next (s.managementWrite frame command)) :=
  nextKeepsQueue_next (pending_managementWrite keeps)

end Rows

theorem nextKeepsQueue_exec (c : Instr) (s : State) : NextKeepsQueue s (exec c s) := by
  cases c with
  | start | repeatedStart => exact nextKeepsQueue_guarded pending_takeStart
  | stop => exact nextKeepsQueue_guarded pending_takeStop
  | misplacedCondition condition => exact nextKeepsQueue_running (pending_takeMisplaced condition)
  | addressByte address read => exact nextKeepsQueue_guardedEvent fun u => rest_decideAddress u address read
  | tenBitFirstByte upper => exact nextKeepsQueue_guardedEvent fun u => rest_decideTenFirst u upper
  | tenBitSecondByte lower => exact nextKeepsQueue_guardedEvent fun u => rest_decideTenSecond u lower
  | tenBitReadForm upper => exact nextKeepsQueue_guardedEvent fun u => rest_decideTenRead u upper
  | mgmtWriteByte byte => exact nextKeepsQueue_guardedEvent fun u => rest_takeMgmtByte u byte
  | mgmtReadByte masterAck => exact nextKeepsQueue_guardedEvent fun u => rest_sendMgmtByte u masterAck
  | postedFillByte byte => exact nextKeepsQueue_guardedEvent fun u => rest_takeFillByte u byte
  | cutThroughDataByte byte => exact nextKeepsQueue_guardedEvent fun u => rest_takeCtByte u byte
  | readDataAck masterAck => exact nextKeepsQueue_guardedEvent fun u => rest_takeReadAck u masterAck
  | holdLimitExpiry => exact nextKeepsQueue_guardedEvent rest_expireHold
  | upstreamLowTimeout => exact nextKeepsQueue_guardedEvent rest_abandonPhase
  | editExpiry => exact nextKeepsQueue_ite rfl (pending_ite _ rfl rfl)
  | deviceIdent | deviceConfigRead => exact nextKeepsQueue_write fun _ => rfl
  | deviceConfigWrite tag check hold idle required m3 m2 m1 m0 =>
    exact nextKeepsQueue_write (pending_deviceConfigWrite tag hold idle required m3 m2 m1 m0)
  | softResetRoutes | softResetAll => exact nextKeepsQueue_write fun _ => rfl
  | editOpen tag check => exact nextKeepsQueue_write (pending_editOpen tag)
  | editStage tag check token slot action entry =>
    exact nextKeepsQueue_write (pending_editStageOfLength tag token slot action entry)
  | editUnstage tag check token slot => exact nextKeepsQueue_write (pending_editUnstage tag token slot)
  | editList tag check token => exact nextKeepsQueue_write (pending_editList tag token)
  | editCommit tag check token => exact nextKeepsQueue_write (pending_editCommit tag token)
  | editAbandon tag check token => exact nextKeepsQueue_write (pending_editAbandon tag token)
  | routeHold tag check slot => exact nextKeepsQueue_write (pending_routeHold tag slot)
  | routeResume tag check slot => exact nextKeepsQueue_write (pending_routeResume tag slot)
  | routeRelease tag check slot => exact nextKeepsQueue_write (pending_routeRelease tag slot)
  | routeRead tag check slot => exact nextKeepsQueue_write (pending_routeRead tag slot)
  | routeFindVirtual tag check formAndUpper lower =>
    exact nextKeepsQueue_write (pending_routeFindVirtual tag formAndUpper lower)
  | routeFindTarget tag check segment target =>
    exact nextKeepsQueue_write (pending_routeFindTarget tag segment target)
  | segmentConfig tag check segment enable speed lowLimit retry alert =>
    exact nextKeepsQueue_write (pending_segmentConfig tag segment enable speed lowLimit retry alert)
  | segmentClear tag check segment => exact nextKeepsQueue_write (pending_segmentClear tag segment)
  | segmentStatus tag check segment => exact nextKeepsQueue_write (pending_segmentStatus tag segment)
  | segmentDiscover tag check segment => exact nextKeepsQueue_write (pending_segmentDiscover tag segment)
  | discoverCancel tag check segment => exact nextKeepsQueue_write (pending_discoverCancel tag segment)
  | presenceRead tag check segment => exact nextKeepsQueue_write (pending_presenceRead tag segment)
  | attentionSummary => exact nextKeepsQueue_write fun _ => rfl
  | attentionRead tag check kind number => exact nextKeepsQueue_write (pending_attentionRead tag kind number)
  | attentionAck tag check kind number stamp high low =>
    exact nextKeepsQueue_write (pending_attentionAck tag kind number stamp high low)
  | targetAddressAnswer seg ack => exact nextKeepsQueue_event fun u => rest_takeAddressAnswer u seg ack
  | cutThroughByteAnswer seg ack => exact nextKeepsQueue_event fun u => rest_takeCtAnswer u seg ack
  | readByteClocked seg byte => exact nextKeepsQueue_event fun u => rest_takeReadByte u seg byte
  | frameOutByteAnswer seg ack => exact nextKeepsQueue_event fun u => rest_takeFrameOutAnswer u seg ack
  | deliveryAddressAnswer seg ack => exact nextKeepsQueue_event fun u => rest_takeDeliveryAddress u seg ack
  | deliveryByteAnswer seg ack => exact nextKeepsQueue_event fun u => rest_takeDeliveryByte u seg ack
  | probeAnswer seg ack => exact nextKeepsQueue_event fun u => rest_takeProbeAnswer u seg ack
  | identifyAddressAnswer seg ack => exact nextKeepsQueue_event fun u => rest_takeIdentifyAddress u seg ack
  | identifyDataByte seg byte => exact nextKeepsQueue_event fun u => rest_takeIdentifyByte u seg byte
  | segmentStopComplete seg => exact nextKeepsQueue_event fun u => rest_takeStopComplete u seg
  | arbitrationLoss seg => exact nextKeepsQueue_event fun u => rest_takeArbitrationLoss u seg
  | segmentLowTimeout seg => exact nextKeepsQueue_event fun u => rest_takeLowTimeout u seg
  | recoveryPulse seg sdaHigh stopRose => exact nextKeepsQueue_event fun u => rest_takePulse u seg sdaHigh stopRose
  | recoveryLowLimit seg => exact nextKeepsQueue_guardedEvent fun u => rest_failRecovery u seg
  | busFreeTime seg | externalStop seg => exact nextKeepsQueue_event fun u => rest_takeFree u seg
  | externalStart seg => exact nextKeepsQueue_event fun u => rest_takeExternalStart u seg
  | segmentAlertFall seg => exact nextKeepsQueue_ite rfl (pending_of_rest (rest_takeAlertFall s seg))
  | segmentAlertRise => exact nextKeepsQueue_next rfl
  | deviceReset => exact nextKeepsQueue_ite rfl rfl
  | deviceResetEnd => exact nextKeepsQueue_ite rfl rfl

/-- Settles O3: row by row, the outcome is a next state, and none of the operations behind it touches the queue. -/
theorem everyCommandRunsAndKeepsQueue : Obligations.EveryCommandRunsAndKeepsQueue := nextKeepsQueue_exec

end Sys2Proof.WaitingCommands
end
